-- ==== Sys2Proof/Word.lean ====
section
/-! DEFINITION. The word types of the block: the byte (00_scope.md R7) and the 16-bit checksum register (R20). -/

namespace Sys2Proof

/-- A byte is 8 bits, bit 0 least significant (00_scope.md R7). -/
abbrev Byte := BitVec 8

/-- The width of the checksum register `CRC` (10_state.md R20). -/
abbrev Word16 := BitVec 16

end Sys2Proof
end

