-- ==== Sys2Proof/Config.lean ====
section
/-! DEFINITION. What the construction of the block fixes and what the spec leaves free (00_scope.md R5, 20_memory.md
R59, 43_command_query.md R184). None of the constants has a body: no proof can see a value. The poll loop has neither a bound nor a delay
(`POLL_LIMIT`, `POLL_DELAY`: none, R5), so nothing stands here for them. The constant frames are in Machine/Wire.lean. -/

namespace Sys2Proof

/-- The value of `TP_PARAMS` handed over at construction (R5, R260): opaque, handed to `TpOpen`, never inspected. -/
opaque Config.tpParams : Nat

/-- The value of `TIMEOUT` handed over at construction (R5, R242): opaque, handed to `TpReadExact`, never inspected. -/
opaque Config.timeout : Nat

/-- The byte a NaN operand of POSE_NORM gives: any value 0 to 255, one draw per operand per operation (R184, U6). -/
opaque Config.nanByte : Nat → Byte

/-- Which waiter gets the free lock when the outside does not choose: any value, one draw per hand-over, taken modulo the number
of waiters (R59, U7). -/
opaque Config.nextWaiter : Nat → Nat

end Sys2Proof
end

