-- ==== Sys2Proof/Syntax.lean ====
section
/-! DEFINITION. The abstract syntax: one constructor of `Instr` per row of spec/opcode_table.json, and what a port presents
to the decoder (30_encoding.md R70, R84). -/

namespace Sys2Proof

/-- The sixteen host operations (R84) with their operands, and the nine wire frames (R71 to R79). -/
inductive Instr where
  /-- IS_CONNECTED, R161. -/
  | isConnected
  /-- CONNECT, R151. -/
  | connect
  /-- DISCONNECT, R160. -/
  | disconnect
  /-- POSE, R180: three signed 32-bit operands (D3). -/
  | pose (position speed force : BitVec 32)
  /-- POSE_NORM, R182: three IEEE 754 binary64 operands, as their bits. -/
  | poseNorm (position speed force : BitVec 64)
  /-- GET_STATE, R185. -/
  | getState
  /-- CRC16, R103: start and count are signed, so that R104 can refuse a negative one. -/
  | crc16 (bytes : List Byte) (start length : Int)
  /-- BUILD_SETPOSE, R121. -/
  | buildSetpose (pos spd frc : Byte)
  /-- BUILD_DEACTIVATE, R122. -/
  | buildDeactivate
  /-- BUILD_ACTIVATE, R123. -/
  | buildActivate
  /-- BUILD_STATUSPOLL, R124. -/
  | buildStatuspoll
  /-- BUILD_READSTATE, R125. -/
  | buildReadstate
  /-- IS_ACK, R126. -/
  | isAck (bytes : List Byte)
  /-- IS_ACT_COMPLETE, R127. -/
  | isActComplete (bytes : List Byte)
  /-- IS_ACT_PENDING, R128. -/
  | isActPending (bytes : List Byte)
  /-- DECODE_STATUS, R200. -/
  | decodeStatus (bytes : List Byte)
  /-- DEACTIVATE_REQ, R71, block to device. -/
  | deactivateReq
  /-- ACTIVATE_REQ, R72, block to device. -/
  | activateReq
  /-- SETPOSE_REQ, R73, block to device: the pose bytes and the two checksum bytes as they stand in the frame. -/
  | setposeReq (pos spd frc ckLo ckHi : Byte)
  /-- STATUSPOLL_REQ, R74, block to device. -/
  | statuspollReq
  /-- READSTATE_REQ, R75, block to device. -/
  | readstateReq
  /-- ACK_RSP, R76, device to block. -/
  | ackRsp
  /-- ACT_COMPLETE_RSP, R77, device to block. -/
  | actCompleteRsp
  /-- ACT_PENDING_RSP, R78, device to block. -/
  | actPendingRsp
  /-- STATE_RSP, R79, device to block: any 11 bytes. -/
  | stateRsp (bytes : List Byte)
  deriving DecidableEq, Repr

/-- The operand lanes of the host port, one lane per operand type of the table of R84. An operation reads the lanes its row
names and no other (log 3). -/
structure Operands where
  /-- The three signed 32-bit operands of POSE. -/
  i0 : BitVec 32
  i1 : BitVec 32
  i2 : BitVec 32
  /-- The three binary64 operands of POSE_NORM. -/
  d0 : BitVec 64
  d1 : BitVec 64
  d2 : BitVec 64
  /-- The three byte operands of BUILD_SETPOSE. -/
  b0 : Byte
  b1 : Byte
  b2 : Byte
  /-- The byte sequence of CRC16, the recognisers and DECODE_STATUS. -/
  seq : List Byte
  /-- The start offset and the count of CRC16, signed (R104). -/
  start : Int
  len : Int
  deriving DecidableEq, Repr

/-- Every operand zero, the byte sequence empty. -/
def Operands.zero : Operands := ⟨0, 0, 0, 0, 0, 0, 0, 0, 0, [], 0, 0⟩

/-- What a port presents: a command on the host port (R84), or a frame with its direction (R70, R83). -/
inductive Packet where
  | host (op : BitVec 5) (args : Operands)
  | toDevice (frame : List Byte)
  | fromDevice (frame : List Byte)
  deriving DecidableEq, Repr

/-- The pseudo-operation RECONNECT expands to exactly these two operations (R88). -/
def reconnect : List Instr := [.disconnect, .connect]

end Sys2Proof
end

