-- ==== Sys2Proof/Machine/State.lean ====
section
/-! DEFINITION. The state of the block as plain data (10_state.md R10 to R33), the state after reset (R31, R260), and the
reasons a step could stop. -/

namespace Sys2Proof.Machine

/-- The connection state register `FSM`, R12. -/
inductive Fsm where
  | disconnected | connecting | deactivating | activating | polling | ready | faulted
  deriving DecidableEq, Repr

/-- The four-valued view of `FSM` that the data model calls ConnectionState, R13. -/
inductive Conn where
  | disconnected | connecting | activating | ready
  deriving DecidableEq, Repr

/-- `TP`, R15. -/
inductive Tp where
  | released | held
  deriving DecidableEq, Repr

/-- `LOCK`, R16. -/
inductive Lock where
  | free | held
  deriving DecidableEq, Repr

/-- The ghost flag `SYNC`, R17. -/
inductive Sync where
  | insync | indeterminate
  deriving DecidableEq, Repr

/-- The classes of errors, R220 to R226. -/
inductive ErrorClass where
  | transportError | protocolError | activationError | decodeError | notConnected | illegalOp
  deriving DecidableEq, Repr

/-- The errors, one constructor per class and cause of R227. An error carries nothing else (R228). -/
inductive Error where
  /-- TransportError.ConnectionRefused: `TpOpen` failed, R221. -/
  | connectionRefused
  /-- TransportError.WriteFailed: a `TpWrite` failed, R221. -/
  | writeFailed
  /-- TransportError.Timeout: a `TpReadExact` timed out, R221. -/
  | timeout
  /-- TransportError.EndOfStream: the stream ended inside a `TpReadExact`, R221. -/
  | endOfStream
  /-- ProtocolError.SendRejected, R222. -/
  | sendRejected
  /-- ActivationError.DeactivateRejected, R223. -/
  | deactivateRejected
  /-- ActivationError.ActivateRejected, R223. -/
  | activateRejected
  /-- ActivationError.RestartError, R223. -/
  | restartError
  /-- DecodeError.BadLength, R224. -/
  | badLength
  /-- NotConnected, R225. -/
  | notConnected
  /-- IllegalOp, R226. -/
  | illegalOp
  deriving DecidableEq, Repr

/-- The result record, R24. -/
structure GripperStatus where
  act : BitVec 1
  gto : BitVec 1
  gphase : BitVec 2
  ophase : BitVec 2
  fault : Byte
  posEcho : Byte
  posMeas : Byte
  curMA : BitVec 12
  deriving DecidableEq, Repr

/-- The values an operation returns with Ok (last column of the table of R84). -/
inductive Value where
  | unit
  | flag (b : Bool)
  | pair (lo hi : Byte)
  | frame (bytes : List Byte)
  | status (s : GripperStatus)
  deriving DecidableEq, Repr

/-- The two ways an operation ends, R220. -/
inductive Result where
  | ok (v : Value)
  | err (e : Error)
  deriving DecidableEq, Repr

/-- A result with the caller it is returned to, R220. -/
structure Return where
  caller : Nat
  result : Result
  deriving DecidableEq, Repr

/-- The three ways a `TpReadExact` ends, R44. -/
inductive ReadEnd where
  | bytes (b : List Byte)
  | timeout
  | endOfStream
  deriving DecidableEq, Repr

/-- One entry of the event history, R54: a transport call with what it was given and what it answered. -/
inductive Event where
  /-- `TpOpen(TP_PARAMS)` and whether it succeeded, R42. -/
  | opened (params : Nat) (ok : Bool)
  /-- `TpWrite(frame)` and whether it succeeded, R43. -/
  | wrote (frame : List Byte) (ok : Bool)
  /-- `TpReadExact(count)` under `TIMEOUT` and its end, R44. -/
  | didRead (count timeout : Nat) (r : ReadEnd)
  /-- `TpClose()` and whether it succeeded (nothing depends on it, R45). -/
  | closed (ok : Bool)
  deriving DecidableEq, Repr

/-- The exchanges, named by their request (R83). POSE and POSE_NORM share theirs (R182). -/
inductive Exch where
  | deactivate | activate | poll | setPose | readState
  deriving DecidableEq, Repr

/-- The positions of a running locked operation at which it waits for the transport (R18). -/
inductive Pos where
  /-- CONNECT line 6, inside `TpOpen`. -/
  | opening
  /-- Inside the `TpWrite` of an exchange: CONNECT lines 10, 13, 17, POSE line 5, GET_STATE line 3. -/
  | writing (x : Exch)
  /-- Inside the `TpReadExact` of an exchange, the same lines. -/
  | reading (x : Exch)
  /-- CONNECT line 22, inside `TpClose` of the failure exit, with the error to raise. -/
  | failing (e : Error)
  /-- DISCONNECT line 4, inside `TpClose`. -/
  | closing
  deriving DecidableEq, Repr

/-- The persistent state, R10 (a). -/
structure Persistent where
  fsm : Fsm
  tp : Tp
  lock : Lock
  sync : Sync
  deriving DecidableEq, Repr

/-- `OPSTEP`, R18: idle, or the running operation's position with the caller that started it. -/
inductive OpStep where
  | idle
  | busy (caller : Nat) (pos : Pos)
  deriving DecidableEq, Repr

/-- The working registers, R19 to R23. `none` is the spec's own "no value": before the operation writes a register and after
the operation has returned (R23, R31, R32 d; log 4). -/
structure Work where
  /-- `POS`, `SPD`, `FRC`, R19. -/
  pos : Option Byte
  spd : Option Byte
  frc : Option Byte
  /-- `CRC`, R20. -/
  crc : Option Word16
  /-- `TXBUF` with its bytes 0 to `TXLEN` - 1, R21. -/
  txbuf : Option (List Byte)
  /-- `TXLEN`, R21. -/
  txlen : Option (BitVec 4)
  /-- `RXBUF` with its bytes 0 to `RXLEN` - 1, R22. -/
  rxbuf : Option (List Byte)
  /-- `RXLEN`, R22. -/
  rxlen : Option (BitVec 4)
  deriving DecidableEq, Repr

/-- No working register has a value (R32 d). -/
def Work.empty : Work := ⟨none, none, none, none, none, none, none, none⟩

/-- An operation in the wait set of `LOCK` (R10, R55) with the caller that started it. -/
structure Waiter where
  caller : Nat
  op : Instr
  deriving DecidableEq, Repr

/-- One thing the outside does (log 1): a caller starts an operation, a waiter gets the lock, or the transport answers. -/
inductive Input where
  /-- A caller puts a command on the host port (R84). -/
  | command (caller : Nat) (op : BitVec 5) (args : Operands)
  /-- The `k`-th operation of the wait set gets the lock, if it is free (R59): the outside makes the choice. Where it makes none
  the block does (log 8). -/
  | grant (k : Nat)
  /-- `TpOpen` returns Ok; the new transport's incoming stream holds `stale` (R42, R60). -/
  | openOk (stale : List Byte)
  /-- `TpOpen` returns an error (R42). -/
  | openRefused
  /-- `TpWrite` returns Ok (R43). -/
  | writeOk
  /-- `TpWrite` returns an error (R43). -/
  | writeFailed
  /-- Bytes arrive in RX, and a read that now has enough of them returns (R44, R47). -/
  | bytes (b : List Byte)
  /-- `TpReadExact` returns Timeout (R44). -/
  | timeout
  /-- `TpReadExact` returns EndOfStream (R44). -/
  | endOfStream
  /-- `TpClose` returns, with Ok or an error (R45). -/
  | closed (ok : Bool)
  deriving DecidableEq, Repr

/-- The reasons a step stops with a fault: none. The spec has no behaviour that stops the block (93, part 1); every failure
is a result (R220). -/
inductive Fault where
  deriving DecidableEq, Repr

/-- The reasons a step is refused. -/
inductive Refusal where
  /-- Raised only by an arm of `exec` whose instruction has no meaning yet; safe. No arm raises it. -/
  | notModelled (mnemonic : String)
  deriving DecidableEq, Repr

/-- The state. The first nine fields are the spec's; then the ports and what has passed over them; the last three are the
model's own (INVENTORY.md, State). -/
structure State where
  /-- `FSM`, R12. -/
  fsm : Fsm
  /-- `TP`, R15. -/
  tp : Tp
  /-- `LOCK`, R16. -/
  lock : Lock
  /-- The wait set of `LOCK`, R10, R59. -/
  waiters : List Waiter
  /-- `SYNC`, R17, as the operations left it; read through `readSync` (R160, log 15). -/
  sync : Sync
  /-- `OPSTEP`, R18. -/
  opstep : OpStep
  /-- The working registers, R19 to R23. -/
  work : Work
  /-- `TP_PARAMS`, R26. -/
  tpParams : Nat
  /-- `TIMEOUT`, R26. -/
  timeout : Nat
  /-- The incoming stream RX, first byte first, R40. -/
  rx : List Byte
  /-- The event history, oldest first, R54. -/
  history : List Event
  /-- What the host port has returned, oldest first, R10 c and R220. -/
  results : List Return
  /-- What the outside does next, in order (log 1). -/
  inputs : List Input
  /-- The caller whose command stands at the host port (log 10). -/
  port : Nat
  /-- How many free values have been drawn (R59, R184; logs 7 and 8). -/
  draws : Nat
  deriving DecidableEq, Repr

/-- Construction of the block with its parameters: the state of R31, and no transport call (R260). -/
def State.construct (tpParams timeout : Nat) : State where
  fsm := .disconnected
  tp := .released
  lock := .free
  waiters := []
  sync := .insync
  opstep := .idle
  work := Work.empty
  tpParams := tpParams
  timeout := timeout
  rx := []
  history := []
  results := []
  inputs := []
  port := 0
  draws := 0

/-- The machine right after reset: constructed with the parameters of Config (R31, R260; log 5). -/
def State.reset : State := State.construct Config.tpParams Config.timeout

end Sys2Proof.Machine
end

