-- ==== Sys2Proof/Machine/Crc.lean ====
section
/-! DEFINITION. The Checksum Engine (40_checksum.md R100 to R104): the bit step, the byte step and CRC16. -/

namespace Sys2Proof.Machine

/-- The bit step, R101: bit 0 is tested before the shift, the shift is logical. -/
def bitStep (c : Word16) : Word16 :=
  if c.getLsbD 0 then (c >>> 1) ^^^ 0xA001#16 else c >>> 1

/-- Eight bit steps (the `repeat 8 times` of R102). -/
def bitSteps : Nat → Word16 → Word16
  | 0, c => c
  | n + 1, c => bitSteps n (bitStep c)

/-- The byte step, R102: the byte enters the low half of the register, then eight bit steps follow. -/
def byteStep (c : Word16) (b : Byte) : Word16 := bitSteps 8 (c ^^^ b.setWidth 16)

/-- The register after a byte sequence, from the register `c`. -/
def crcFrom (c : Word16) (bs : List Byte) : Word16 := bs.foldl byteStep c

/-- The register after a byte sequence, from the initial value 0xFFFF (R100). -/
def crcOf (bs : List Byte) : Word16 := crcFrom 0xFFFF#16 bs

/-- `CRC[7:0]` (R103, R108). -/
def loByte (c : Word16) : Byte := c.extractLsb' 0 8

/-- `CRC[15:8]` (R103, R108). -/
def hiByte (c : Word16) : Byte := c.extractLsb' 8 8

/-- CRC16 over `length` bytes of `bytes` from offset `start` (R103); nothing where `start` or `length` is negative or the range
is not inside the sequence (R104). -/
def crc16 (bytes : List Byte) (start length : Int) : Option Word16 :=
  if 0 ≤ start ∧ 0 ≤ length ∧ start + length ≤ bytes.length then
    some (crcOf ((bytes.drop start.toNat).take length.toNat))
  else none

end Sys2Proof.Machine
end

