-- ==== Sys2Proof/Machine/Wire.lean ====
section
/-! DEFINITION. The frame ROM (10_state.md R27; bytes of 30_encoding.md R71 to R78) and the builder of the one variable frame
(41_frame_codec.md R121). Offset 0 stands first. -/

namespace Sys2Proof.Machine

/-- DEACTIVATE_REQ, R71. -/
def Wire.deactivate : List Byte :=
  [0x09, 0x10, 0x03, 0xE8, 0x00, 0x03, 0x06, 0x00, 0x00, 0x00, 0x00, 0x00, 0x00, 0x73, 0x30]

/-- ACTIVATE_REQ, R72. -/
def Wire.activate : List Byte :=
  [0x09, 0x10, 0x03, 0xE8, 0x00, 0x03, 0x06, 0x01, 0x00, 0x00, 0x00, 0x00, 0x00, 0x72, 0xE1]

/-- STATUSPOLL_REQ, R74. -/
def Wire.statusPoll : List Byte := [0x09, 0x03, 0x07, 0xD0, 0x00, 0x01, 0x85, 0xCF]

/-- READSTATE_REQ, R75. -/
def Wire.readState : List Byte := [0x09, 0x03, 0x07, 0xD0, 0x00, 0x03, 0x04, 0x0E]

/-- ACK_RSP, R76. -/
def Wire.ack : List Byte := [0x09, 0x10, 0x03, 0xE8, 0x00, 0x03, 0x01, 0x30]

/-- ACT_COMPLETE_RSP, R77: the document's assignment of the two 7-byte constants, kept as D26 says (log 14). -/
def Wire.actComplete : List Byte := [0x09, 0x03, 0x02, 0x11, 0x00, 0x55, 0xD5]

/-- ACT_PENDING_RSP, R78 (log 14). -/
def Wire.actPending : List Byte := [0x09, 0x03, 0x02, 0x31, 0x00, 0x4C, 0x15]

/-- The 10-byte prefix of SETPOSE_REQ (R27, R73). -/
def Wire.setPosePrefix : List Byte := [0x09, 0x10, 0x03, 0xE8, 0x00, 0x03, 0x06, 0x09, 0x00, 0x00]

/-- Offsets 0 to 12 of SETPOSE_REQ: the prefix and the three pose bytes (R80, R81). -/
def Wire.setPoseBody (pos spd frc : Byte) : List Byte := Wire.setPosePrefix ++ [pos, spd, frc]

/-- The register of the Checksum Engine after offsets 0 to 12 of SETPOSE_REQ (R106: its only use inside the block). -/
def Wire.setPoseCrc (pos spd frc : Byte) : Word16 := crcOf (Wire.setPoseBody pos spd frc)

/-- BUILD_SETPOSE, R121: body, then the checksum computed from it, low byte first (R48, R131). -/
def Wire.setPose (pos spd frc : Byte) : List Byte :=
  Wire.setPoseBody pos spd frc ++ [loByte (Wire.setPoseCrc pos spd frc), hiByte (Wire.setPoseCrc pos spd frc)]

/-- A frame whose last two bytes are the checksum of the bytes before them, low byte first (R70, R131). -/
def Wire.fresh (f : List Byte) : Bool :=
  decide (2 ≤ f.length ∧
    f.drop (f.length - 2) = [loByte (crcOf (f.take (f.length - 2))), hiByte (crcOf (f.take (f.length - 2)))])

end Sys2Proof.Machine
end

