-- ==== Sys2Proof/Machine/Flags.lean ====
section
/-! DEFINITION. Every flag and every decoded field: the recognisers (41_frame_codec.md R126 to R129), the Status Decoder
(44_status_decoder.md R200 to R214), the view `CONN` of `FSM` (10_state.md R13), `SYNC` as it reads (R17) and the codes of R12 and R227. The block has
no condition codes (R25). -/

namespace Sys2Proof.Machine

/-- IS_ACK, R126: exact equality over the whole length, so any other length is false (R129). -/
def isAck (r : List Byte) : Bool := decide (r = Wire.ack)

/-- IS_ACT_COMPLETE, R127. -/
def isActComplete (r : List Byte) : Bool := decide (r = Wire.actComplete)

/-- IS_ACT_PENDING, R128. -/
def isActPending (r : List Byte) : Bool := decide (r = Wire.actPending)

/-- `act`: bit 0 of byte 3, R202. -/
def decodeAct (b3 : Byte) : BitVec 1 := b3.extractLsb' 0 1

/-- `gto`: bit 3 of byte 3, R203. -/
def decodeGto (b3 : Byte) : BitVec 1 := b3.extractLsb' 3 1

/-- `gphase`: bits 5:4 of byte 3, R204. -/
def decodeGphase (b3 : Byte) : BitVec 2 := b3.extractLsb' 4 2

/-- `ophase`: bits 7:6 of byte 3, R205. -/
def decodeOphase (b3 : Byte) : BitVec 2 := b3.extractLsb' 6 2

/-- `cur_mA`: byte 8, zero-extended, times 10, R209. -/
def decodeCurrent (b8 : Byte) : BitVec 12 := b8.setWidth 12 * 10#12

/-- DECODE_STATUS, R200: nothing where the length is not 11 (R201). Offsets 0, 1, 2, 4, 9 and 10 are not read (R210). -/
def decodeStatus : List Byte → Option GripperStatus
  | [_, _, _, b3, _, b5, b6, b7, b8, _, _] =>
    some
      { act := decodeAct b3
        gto := decodeGto b3
        gphase := decodeGphase b3
        ophase := decodeOphase b3
        fault := b5
        posEcho := b6
        posMeas := b7
        curMA := decodeCurrent b8 }
  | _ => none

/-- `isActive()`, R202, R214. -/
def isActive (s : GripperStatus) : Bool := s.act == 1

/-- `isOnGoToPosition()`, R203, R214. -/
def isOnGoToPosition (s : GripperStatus) : Bool := s.gto == 1

/-- `gripperPhase`, R214. -/
def gripperPhase (s : GripperStatus) : BitVec 2 := s.gphase

/-- `objectDetectionPhase`, R214. -/
def objectDetectionPhase (s : GripperStatus) : BitVec 2 := s.ophase

/-- `getCurrent()`, the multiplied value, R214. -/
def getCurrent (s : GripperStatus) : BitVec 12 := s.curMA

/-- The 3-bit codes of R12. -/
def Fsm.code : Fsm → BitVec 3
  | .disconnected => 0
  | .connecting => 1
  | .deactivating => 2
  | .activating => 3
  | .polling => 4
  | .ready => 5
  | .faulted => 6

/-- The projection `CONN`, R13. -/
def Fsm.conn : Fsm → Conn
  | .disconnected => .disconnected
  | .connecting => .connecting
  | .deactivating => .activating
  | .activating => .activating
  | .polling => .activating
  | .ready => .ready
  | .faulted => .disconnected

/-- "Connected" is `FSM` = Ready, R161. -/
def connected (f : Fsm) : Bool := f == .ready

/-- `SYNC` as it reads: without a transport it is meaningless (R160), and then it reads as at reset (R262; log 15). -/
def readSync (s : State) : Sync :=
  match s.tp with
  | .released => .insync
  | .held => s.sync

/-- The persistent state, R10 (a). -/
def persistent (s : State) : Persistent := ⟨s.fsm, s.tp, s.lock, readSync s⟩

/-- The class of an error, R227. -/
def Error.cls : Error → ErrorClass
  | .connectionRefused => .transportError
  | .writeFailed => .transportError
  | .timeout => .transportError
  | .endOfStream => .transportError
  | .sendRejected => .protocolError
  | .deactivateRejected => .activationError
  | .activateRejected => .activationError
  | .restartError => .activationError
  | .badLength => .decodeError
  | .notConnected => .notConnected
  | .illegalOp => .illegalOp

/-- The 8-bit result codes of R227. -/
def Result.code : Result → BitVec 8
  | .ok _ => 0x00
  | .err .connectionRefused => 0x10
  | .err .writeFailed => 0x11
  | .err .timeout => 0x12
  | .err .endOfStream => 0x13
  | .err .sendRejected => 0x20
  | .err .deactivateRejected => 0x30
  | .err .activateRejected => 0x31
  | .err .restartError => 0x32
  | .err .badLength => 0x40
  | .err .notConnected => 0x50
  | .err .illegalOp => 0x60

end Sys2Proof.Machine
end

