-- ==== Sys2Proof/Machine/Operands.lean ====
section
/-! DEFINITION. Conditioning of the pose operands (43_command_query.md R181 to R184): the clamp of raw integers, and the
scaling of binary64 values with the product rounded to nearest, ties to even. -/

namespace Sys2Proof.Machine

/-- `clamp255` on the integers, R181. -/
def clampInt (n : Int) : Byte := if n < 0 then 0 else if n > 255 then 255 else BitVec.ofInt 8 n

/-- `clamp255` of a raw operand, a signed 32-bit value (R180, R181). -/
def clamp255 (n : BitVec 32) : Byte := clampInt n.toInt

/-- A binary64 value: NaN, an infinity, or `± sig * 2 ^ exp / 2 ^ 1074` (log 11). -/
inductive F64 where
  | nan
  | infinite (neg : Bool)
  | finite (neg : Bool) (sig exp : Nat)
  deriving DecidableEq, Repr

/-- The value of 64 bits: sign in bit 63, biased exponent in bits 62:52, fraction in bits 51:0 (log 11). -/
def F64.ofBits (b : BitVec 64) : F64 :=
  let neg := b.getLsbD 63
  let e := (b.extractLsb' 52 11).toNat
  let f := (b.extractLsb' 0 52).toNat
  if e = 2047 then (if f = 0 then .infinite neg else .nan)
  else if e = 0 then .finite neg f 0
  else .finite neg (2 ^ 52 + f) (e - 1)

/-- A significand rounded to 53 bits, to nearest with ties to even: `p` becomes `q * 2 ^ k`. -/
def roundSig (p : Nat) : Nat × Nat :=
  let k := Nat.log2 p + 1 - 53
  let q := p / 2 ^ k
  let r := p % 2 ^ k
  (if 2 * r > 2 ^ k ∨ (2 * r = 2 ^ k ∧ q % 2 = 1) then q + 1 else q, k)

/-- The binary64 product with 255.0 (R183); a product of 2 ^ 1024 or more overflows to infinity (R184). -/
def F64.mul255 : F64 → F64
  | .nan => .nan
  | .infinite neg => .infinite neg
  | .finite neg sig exp =>
    let qk := roundSig (255 * sig)
    if 2 ^ (1024 + 1074) ≤ qk.1 * 2 ^ (exp + qk.2) then .infinite neg else .finite neg qk.1 (exp + qk.2)

/-- The comparisons and the truncation of R183 on a product, with R184 for the infinities; a NaN gives the drawn byte. -/
def F64.toByte (drawn : Byte) : F64 → Byte
  | .nan => drawn
  | .infinite neg => if neg then 0 else 255
  | .finite neg sig exp =>
    if neg = false ∧ 255 * 2 ^ 1074 ≤ sig * 2 ^ exp then 255
    else if neg ∨ sig = 0 then 0
    else BitVec.ofNat 8 (sig * 2 ^ exp / 2 ^ 1074)

/-- `scale255`, R183 and R184. -/
def scale255 (drawn : Byte) (x : BitVec 64) : Byte := (F64.ofBits x).mul255.toByte drawn

end Sys2Proof.Machine
end

