-- ==== Sys2Proof/Machine/Ops.lean ====
section
/-! DEFINITION. The shared operations: history and host port, the lock (20_memory.md R55, R59), the transport primitives
(R42 to R45) with what the running operation does when one returns (42_activation_fsm.md R151, R160; 43_command_query.md R180,
R185), ending an operation in Ok, and ending one in an error, which takes the place of taking an exception
(60_exceptions.md R220, R230 to R236). There is no return from an exception (R239): after an error the next operation starts
from the state the error left. -/

namespace Sys2Proof.Machine

/-! ### One field at a time -/

/-- `FSM <- f` (R8, R14). -/
def setFsm (f : Fsm) (s : State) : State := { s with fsm := f }

/-- `TP <- t` (R15). -/
def setTp (t : Tp) (s : State) : State := { s with tp := t }

/-- `LOCK <- l` (R16). -/
def setLock (l : Lock) (s : State) : State := { s with lock := l }

/-- The wait set of `LOCK` (R10). -/
def setWaiters (w : List Waiter) (s : State) : State := { s with waiters := w }

/-- `SYNC <- y` (R17). -/
def setSync (y : Sync) (s : State) : State := { s with sync := y }

/-- `OPSTEP <- o` (R18). -/
def setOpstep (o : OpStep) (s : State) : State := { s with opstep := o }

/-- The working registers (R19 to R23). -/
def setWork (w : Work) (s : State) : State := { s with work := w }

/-- What waits in RX (R40, R60). -/
def setRx (b : List Byte) (s : State) : State := { s with rx := b }

/-- What the outside does next (log 1). -/
def setInputs (l : List Input) (s : State) : State := { s with inputs := l }

/-- The caller at the host port (log 10). -/
def setPort (c : Nat) (s : State) : State := { s with port := c }

/-- The counter of drawn free values (logs 7 and 8). -/
def setDraws (n : Nat) (s : State) : State := { s with draws := n }

/-! ### History, host port, and the two ends of a locked operation -/

/-- A transport call goes on record (R54). -/
def emit (e : Event) (s : State) : State := { s with history := s.history ++ [e] }

/-- The host port returns a result to a caller (R220). -/
def deliver (c : Nat) (r : Result) (s : State) : State := { s with results := s.results ++ [⟨c, r⟩] }

/-- `Release(LOCK)` at the end of the operation that holds it (R55, R235): OPSTEP is idle again and no working register has a
value (R23, R32). -/
def release (s : State) : State := setWork Work.empty (setOpstep .idle (setLock .free s))

/-- A locked operation ends with Ok: the lock is released before the result reaches the caller (R235). -/
def complete (c : Nat) (v : Value) (s : State) : State := deliver c (.ok v) (release s)

/-- `raise`: a locked operation ends with an error (R220, R235). What else changes with it is written by the step that raises
(R230 to R234). -/
def raise (c : Nat) (e : Error) (s : State) : State := deliver c (.err e) (release s)

/-- The failure exit of CONNECT, line 21: Faulted, then `TpClose` (R158, R230). -/
def failHandshake (c : Nat) (e : Error) (s : State) : State := setOpstep (.busy c (.failing e)) (setFsm .faulted s)

/-- How many bytes the reply of an exchange has (R83). -/
def Exch.replyLen : Exch → Nat
  | .deactivate => 8
  | .activate => 8
  | .poll => 7
  | .setPose => 8
  | .readState => 11

/-- Load `TXBUF` and `TXLEN` (R21) and enter the `TpWrite` of an exchange (R57). -/
def send (c : Nat) (x : Exch) (f : List Byte) (s : State) : State :=
  setOpstep (.busy c (.writing x))
    (setWork { s.work with txbuf := some f, txlen := some (BitVec.ofNat 4 f.length) } s)

/-- The bytes a pending `TpWrite` is to hand over: `TXBUF`. -/
def dueFrame (s : State) : Option (List Byte) :=
  match s.opstep with
  | .busy _ (.writing _) => s.work.txbuf
  | _ => none

/-! ### The transport returns -/

/-- `TpOpen` returned Ok: CONNECT lines 8 and 9, and the first write of the handshake (R151, R153). -/
def openSucceeds (c : Nat) (stale : List Byte) (s : State) : State :=
  send c .deactivate Wire.deactivate
    (setRx stale (setFsm .deactivating (setSync .insync (setTp .held (emit (.opened s.tpParams true) s)))))

/-- `TpOpen` returned an error: CONNECT line 7 (R152); the block is as after reset, SYNC too (R230, R262; log 15). -/
def openFails (c : Nat) (s : State) : State :=
  raise c .connectionRefused (setSync .insync (setFsm .disconnected (emit (.opened s.tpParams false) s)))

/-- `TpWrite` of the frame `f` returned Ok: the read of the same exchange follows (R57). -/
def writeSucceeds (c : Nat) (x : Exch) (f : List Byte) (s : State) : State :=
  setOpstep (.busy c (.reading x)) (emit (.wrote f true) s)

/-- A transport error inside an exchange: `SYNC` becomes indeterminate (R57); in the handshake the failure exit follows
(R230), in Ready the operation ends and `FSM` and `TP` stay (R232). -/
def exchangeFails (c : Nat) (x : Exch) (e : Error) (s : State) : State :=
  match x with
  | .deactivate => failHandshake c e (setSync .indeterminate s)
  | .activate => failHandshake c e (setSync .indeterminate s)
  | .poll => failHandshake c e (setSync .indeterminate s)
  | .setPose => raise c e (setSync .indeterminate s)
  | .readState => raise c e (setSync .indeterminate s)

/-- `TpWrite` of the frame `f` returned an error: the read is skipped (R43). -/
def writeFails (c : Nat) (x : Exch) (f : List Byte) (s : State) : State :=
  exchangeFails c x .writeFailed (emit (.wrote f false) s)

/-- `TpWrite` returned: it had been given what `TXBUF` holds (R21, R43). Where `TXBUF` has no value no write is pending. -/
def writeReturns (c : Nat) (x : Exch) (ok : Bool) (s : State) : State :=
  match s.work.txbuf with
  | some f => if ok then writeSucceeds c x f s else writeFails c x f s
  | none => s

/-- `TpReadExact` returned an error: the bytes that had arrived for it, fewer than it asked for, are lost (R44; log 9). -/
def readFails (c : Nat) (x : Exch) (r : ReadEnd) (e : Error) (s : State) : State :=
  exchangeFails c x e (setRx (s.rx.drop (x.replyLen - 1)) (emit (.didRead x.replyLen s.timeout r) s))

/-- What the operation does with the reply of an exchange: CONNECT lines 11 to 20, POSE lines 6 and 7, GET_STATE lines 4
and 5 (R130, R151, R180, R185). -/
def useReply (c : Nat) (x : Exch) (rx : List Byte) (s : State) : State :=
  match x with
  | .deactivate =>
    if isAck rx then send c .activate Wire.activate (setFsm .activating s)
    else failHandshake c .deactivateRejected s
  | .activate =>
    if isAck rx then send c .poll Wire.statusPoll (setFsm .polling s)
    else failHandshake c .activateRejected s
  | .poll =>
    if isActComplete rx then complete c .unit (setFsm .ready s)
    else if isActPending rx then send c .poll Wire.statusPoll s
    else failHandshake c .restartError s
  | .setPose => if isAck rx then complete c .unit s else raise c .sendRejected s
  | .readState =>
    match decodeStatus rx with
    | some st => complete c (.status st) s
    | none => raise c .badLength s

/-- `TpReadExact` returned the first `n` bytes of RX: they are `RXBUF`, and what is left stays in RX (R44, R57, R60). -/
def readSucceeds (c : Nat) (x : Exch) (s : State) : State :=
  let reply := s.rx.take x.replyLen
  useReply c x reply
    (setWork { s.work with rxbuf := some reply, rxlen := some (BitVec.ofNat 4 x.replyLen) }
      (setRx (s.rx.drop x.replyLen) (emit (.didRead x.replyLen s.timeout (.bytes reply)) s)))

/-- Bytes arrive while a read waits: it returns if there are enough now (R44). -/
def readArrives (c : Nat) (x : Exch) (b : List Byte) (s : State) : State :=
  if x.replyLen ≤ (s.rx ++ b).length then readSucceeds c x (setRx (s.rx ++ b) s)
  else setRx (s.rx ++ b) s

/-- `TpClose` returned, whatever it reported: the failure exit of CONNECT, lines 22 to 24 (R158, R245); the block is as after
reset, SYNC too (R230, R262; log 15). -/
def failureCloses (c : Nat) (e : Error) (ok : Bool) (s : State) : State :=
  raise c e (setSync .insync (setFsm .disconnected (setTp .released (emit (.closed ok) s))))

/-- `TpClose` returned, whatever it reported: DISCONNECT, lines 4 to 6 (R160, R245). It does not write SYNC (R160), which
without a transport reads insync (R262; log 15). -/
def disconnectCloses (c : Nat) (ok : Bool) (s : State) : State :=
  complete c .unit (setFsm .disconnected (setTp .released (emit (.closed ok) s)))

/-- One thing the transport does, at the position the running operation is at. Bytes for which no read waits stay in RX (R238);
any other answer that fits no pending call is dropped (log 2). -/
def answer (a : Input) (s : State) : State :=
  match s.opstep, a with
  | .busy c .opening, .openOk stale => openSucceeds c stale s
  | .busy c .opening, .openRefused => openFails c s
  | .busy c (.writing x), .writeOk => writeReturns c x true s
  | .busy c (.writing x), .writeFailed => writeReturns c x false s
  | .busy c (.reading x), .bytes b => readArrives c x b s
  | .busy c (.reading x), .timeout => readFails c x .timeout .timeout s
  | .busy c (.reading x), .endOfStream => readFails c x .endOfStream .endOfStream s
  | .busy c (.failing e), .closed ok => failureCloses c e ok s
  | .busy c .closing, .closed ok => disconnectCloses c ok s
  | _, .bytes b => setRx (s.rx ++ b) s
  | _, _ => s

/-! ### Running on, and the lock -/

/-- An input that is the transport's, not a caller's. -/
def Input.isAnswer : Input → Bool
  | .command _ _ _ => false
  | .grant _ => false
  | .openOk _ => true
  | .openRefused => true
  | .writeOk => true
  | .writeFailed => true
  | .bytes _ => true
  | .timeout => true
  | .endOfStream => true
  | .closed _ => true

/-- A locked operation runs. -/
def running (s : State) : Bool :=
  match s.opstep with
  | .idle => false
  | .busy _ _ => true

/-- The operation runs on with the transport's answers that stand first in `l`, until it ends, or until a caller does
something, or until there is no answer yet (R18; log 1). The rest of `l` stays as inputs. -/
def runOn : List Input → State → State
  | [], s => setInputs [] s
  | a :: l, s => if running s && a.isAnswer then runOn l (answer a s) else setInputs (a :: l) s

/-- A locked operation (R55): it joins the wait set if the lock is held; else it acquires the lock, does `body`, and runs on
with the answers that are there. -/
def locked (op : Instr) (body : Nat → State → State) (s : State) : State :=
  match s.lock with
  | .held => setWaiters (s.waiters ++ [⟨s.port, op⟩]) s
  | .free => runOn s.inputs (body s.port (setLock .held s))

/-! ### The bodies of the locked operations, lock held, up to their first transport call -/

/-- CONNECT lines 2 to 6 (R151, R152). -/
def connectBody (c : Nat) (s : State) : State :=
  if connected s.fsm then complete c .unit s
  else setOpstep (.busy c .opening) (setFsm .connecting s)

/-- DISCONNECT lines 2 to 4 (R160). -/
def disconnectBody (c : Nat) (s : State) : State :=
  if s.fsm = .disconnected then complete c .unit s
  else setOpstep (.busy c .closing) s

/-- Lines 3 and 4 of POSE and POSE_NORM with conditioned operands: `POS`, `SPD`, `FRC`, then BUILD_SETPOSE with its run of the
Checksum Engine (R121, R180, R182). -/
def sendPose (c : Nat) (p v f : Byte) (s : State) : State :=
  send c .setPose (Wire.setPose p v f)
    (setWork { s.work with pos := some p, spd := some v, frc := some f, crc := some (Wire.setPoseCrc p v f) } s)

/-- POSE lines 2 to 5 (R180, R187). -/
def poseBody (position speed force : BitVec 32) (c : Nat) (s : State) : State :=
  if connected s.fsm then sendPose c (clamp255 position) (clamp255 speed) (clamp255 force) s
  else raise c .notConnected s

/-- POSE_NORM lines 2 to 5 (R182): each operand may draw a free byte of its own (R184). -/
def poseNormBody (position speed force : BitVec 64) (c : Nat) (s : State) : State :=
  if connected s.fsm then
    sendPose c
      (scale255 (Config.nanByte s.draws) position)
      (scale255 (Config.nanByte (s.draws + 1)) speed)
      (scale255 (Config.nanByte (s.draws + 2)) force)
      (setDraws (s.draws + 3) s)
  else raise c .notConnected s

/-- GET_STATE lines 2 and 3 (R185, R187). -/
def getStateBody (c : Nat) (s : State) : State :=
  if connected s.fsm then send c .readState Wire.readState s
  else raise c .notConnected s

/-- A unit operation returns: no state is read or written, the lock is not involved (R84, R120). -/
def returns (r : Result) (s : State) : State := deliver s.port r s

/-- A request frame passes the transport port: the pending `TpWrite` of exactly this frame returns Ok (R43, R57). A frame that
no running operation has due is not sent (R163; log 2). -/
def passes (f : List Byte) (s : State) : State :=
  if dueFrame s = some f then answer .writeOk s else s

end Sys2Proof.Machine
end

