-- ==== Sys2Proof/Machine/Frames.lean ====
section
/-! DEFINITION. The nine wire frames (30_encoding.md R71 to R79). A request frame (block to device) is the frame that a pending
`TpWrite` hands over; a reply frame (device to block) is bytes arriving in RX, which end the read that waits for them. -/

namespace Sys2Proof.Machine

/-- DEACTIVATE_REQ, R71. -/
def execDeactivateReq (s : State) : Host.Outcome State Fault Refusal := .next (passes Wire.deactivate s)

/-- ACTIVATE_REQ, R72. -/
def execActivateReq (s : State) : Host.Outcome State Fault Refusal := .next (passes Wire.activate s)

/-- SETPOSE_REQ, R73. -/
def execSetposeReq (pos spd frc ckLo ckHi : Byte) (s : State) : Host.Outcome State Fault Refusal :=
  .next (passes (Wire.setPoseBody pos spd frc ++ [ckLo, ckHi]) s)

/-- STATUSPOLL_REQ, R74. -/
def execStatuspollReq (s : State) : Host.Outcome State Fault Refusal := .next (passes Wire.statusPoll s)

/-- READSTATE_REQ, R75. -/
def execReadstateReq (s : State) : Host.Outcome State Fault Refusal := .next (passes Wire.readState s)

/-- ACK_RSP, R76. -/
def execAckRsp (s : State) : Host.Outcome State Fault Refusal := .next (answer (.bytes Wire.ack) s)

/-- ACT_COMPLETE_RSP, R77. -/
def execActCompleteRsp (s : State) : Host.Outcome State Fault Refusal := .next (answer (.bytes Wire.actComplete) s)

/-- ACT_PENDING_RSP, R78. -/
def execActPendingRsp (s : State) : Host.Outcome State Fault Refusal := .next (answer (.bytes Wire.actPending) s)

/-- STATE_RSP, R79. -/
def execStateRsp (bytes : List Byte) (s : State) : Host.Outcome State Fault Refusal := .next (answer (.bytes bytes) s)

end Sys2Proof.Machine
end

