-- ==== Sys2Proof/Machine/Session.lean ====
section
/-! DEFINITION. The six session operations: CONNECT, DISCONNECT, IS_CONNECTED (42_activation_fsm.md), POSE, POSE_NORM and
GET_STATE (43_command_query.md). -/

namespace Sys2Proof.Machine

/-- IS_CONNECTED, R161: reads `FSM`, takes no lock, writes nothing. -/
def execIsConnected (s : State) : Host.Outcome State Fault Refusal :=
  .next (returns (.ok (.flag (connected s.fsm))) s)

/-- CONNECT, R151 to R159. -/
def execConnect (s : State) : Host.Outcome State Fault Refusal :=
  .next (locked .connect connectBody s)

/-- DISCONNECT, R160. -/
def execDisconnect (s : State) : Host.Outcome State Fault Refusal :=
  .next (locked .disconnect disconnectBody s)

/-- POSE, R180, R181. -/
def execPose (position speed force : BitVec 32) (s : State) : Host.Outcome State Fault Refusal :=
  .next (locked (.pose position speed force) (poseBody position speed force) s)

/-- POSE_NORM, R182 to R184. -/
def execPoseNorm (position speed force : BitVec 64) (s : State) : Host.Outcome State Fault Refusal :=
  .next (locked (.poseNorm position speed force) (poseNormBody position speed force) s)

/-- GET_STATE, R185. -/
def execGetState (s : State) : Host.Outcome State Fault Refusal :=
  .next (locked .getState getStateBody s)

end Sys2Proof.Machine
end

