-- ==== Sys2Proof/Machine/Units.lean ====
section
/-! DEFINITION. The ten unit operations, pure functions of their operands that any caller may start at any time: the Checksum
Engine (40_checksum.md R103), the Frame Codec (41_frame_codec.md R121 to R128) and the Status Decoder (44_status_decoder.md
R200). Their working registers are locals, so they never touch those of a running locked operation (R23, R120; log 4). -/

namespace Sys2Proof.Machine

/-- CRC16, R103; a negative start or length, or a range that leaves the sequence, is refused with IllegalOp, R104. -/
def execCrc16 (bytes : List Byte) (start length : Int) (s : State) : Host.Outcome State Fault Refusal :=
  match crc16 bytes start length with
  | some c => .next (returns (.ok (.pair (loByte c) (hiByte c))) s)
  | none => .next (returns (.err .illegalOp) s)

/-- BUILD_SETPOSE, R121. -/
def execBuildSetpose (pos spd frc : Byte) (s : State) : Host.Outcome State Fault Refusal :=
  .next (returns (.ok (.frame (Wire.setPose pos spd frc))) s)

/-- BUILD_DEACTIVATE, R122. -/
def execBuildDeactivate (s : State) : Host.Outcome State Fault Refusal :=
  .next (returns (.ok (.frame Wire.deactivate)) s)

/-- BUILD_ACTIVATE, R123. -/
def execBuildActivate (s : State) : Host.Outcome State Fault Refusal :=
  .next (returns (.ok (.frame Wire.activate)) s)

/-- BUILD_STATUSPOLL, R124. -/
def execBuildStatuspoll (s : State) : Host.Outcome State Fault Refusal :=
  .next (returns (.ok (.frame Wire.statusPoll)) s)

/-- BUILD_READSTATE, R125. -/
def execBuildReadstate (s : State) : Host.Outcome State Fault Refusal :=
  .next (returns (.ok (.frame Wire.readState)) s)

/-- IS_ACK, R126. -/
def execIsAck (bytes : List Byte) (s : State) : Host.Outcome State Fault Refusal :=
  .next (returns (.ok (.flag (isAck bytes))) s)

/-- IS_ACT_COMPLETE, R127. -/
def execIsActComplete (bytes : List Byte) (s : State) : Host.Outcome State Fault Refusal :=
  .next (returns (.ok (.flag (isActComplete bytes))) s)

/-- IS_ACT_PENDING, R128. -/
def execIsActPending (bytes : List Byte) (s : State) : Host.Outcome State Fault Refusal :=
  .next (returns (.ok (.flag (isActPending bytes))) s)

/-- DECODE_STATUS, R200; a wrong length raises DecodeError.BadLength, R201, R233. -/
def execDecodeStatus (bytes : List Byte) (s : State) : Host.Outcome State Fault Refusal :=
  match decodeStatus bytes with
  | some st => .next (returns (.ok (.status st)) s)
  | none => .next (returns (.err .badLength) s)

end Sys2Proof.Machine
end

