-- ==== Sys2Proof/Machine/Dispatch.lean ====
section
/-! DEFINITION. The dispatch: one arm per constructor of `Instr`, each one call of its meaning. -/

namespace Sys2Proof.Machine

def exec (i : Instr) (s : State) : Host.Outcome State Fault Refusal :=
  match i with
  | .isConnected => Sys2Proof.Machine.execIsConnected s
  | .connect => Sys2Proof.Machine.execConnect s
  | .disconnect => Sys2Proof.Machine.execDisconnect s
  | .pose position speed force => Sys2Proof.Machine.execPose position speed force s
  | .poseNorm position speed force => Sys2Proof.Machine.execPoseNorm position speed force s
  | .getState => Sys2Proof.Machine.execGetState s
  | .crc16 bytes start length => Sys2Proof.Machine.execCrc16 bytes start length s
  | .buildSetpose pos spd frc => Sys2Proof.Machine.execBuildSetpose pos spd frc s
  | .buildDeactivate => Sys2Proof.Machine.execBuildDeactivate s
  | .buildActivate => Sys2Proof.Machine.execBuildActivate s
  | .buildStatuspoll => Sys2Proof.Machine.execBuildStatuspoll s
  | .buildReadstate => Sys2Proof.Machine.execBuildReadstate s
  | .isAck bytes => Sys2Proof.Machine.execIsAck bytes s
  | .isActComplete bytes => Sys2Proof.Machine.execIsActComplete bytes s
  | .isActPending bytes => Sys2Proof.Machine.execIsActPending bytes s
  | .decodeStatus bytes => Sys2Proof.Machine.execDecodeStatus bytes s
  | .deactivateReq => Sys2Proof.Machine.execDeactivateReq s
  | .activateReq => Sys2Proof.Machine.execActivateReq s
  | .setposeReq pos spd frc ckLo ckHi => Sys2Proof.Machine.execSetposeReq pos spd frc ckLo ckHi s
  | .statuspollReq => Sys2Proof.Machine.execStatuspollReq s
  | .readstateReq => Sys2Proof.Machine.execReadstateReq s
  | .ackRsp => Sys2Proof.Machine.execAckRsp s
  | .actCompleteRsp => Sys2Proof.Machine.execActCompleteRsp s
  | .actPendingRsp => Sys2Proof.Machine.execActPendingRsp s
  | .stateRsp bytes => Sys2Proof.Machine.execStateRsp bytes s

end Sys2Proof.Machine
end

