-- ==== Sys2Proof/Decode.lean ====
section
/-! DEFINITION. The decoder of host-port commands (30_encoding.md R84, R85) and of frames (R70 to R79, R83), total and
rejecting by name; the encoder after it, from the same tables; and the host's reading of a table word. -/

namespace Sys2Proof

/-- Why a packet names no instruction. -/
inductive DecodeError where
  /-- An `OP` code 0x06 to 0x0F or 0x1A to 0x1F (R85). -/
  | unassignedOp (op : BitVec 5)
  /-- Bytes block to device that are none of the five request frames (R86). -/
  | unknownRequest
  /-- Bytes device to block that are none of the accepted replies (R83, R86). -/
  | unknownReply
  deriving DecidableEq, Repr

/-- The `OP` codes of R84. -/
def decodeHost (op : BitVec 5) (a : Operands) : Except DecodeError Instr :=
  match op.toNat with
  | 0x00 => .ok .isConnected
  | 0x01 => .ok .connect
  | 0x02 => .ok .disconnect
  | 0x03 => .ok (.pose a.i0 a.i1 a.i2)
  | 0x04 => .ok (.poseNorm a.d0 a.d1 a.d2)
  | 0x05 => .ok .getState
  | 0x10 => .ok (.crc16 a.seq a.start a.len)
  | 0x11 => .ok (.buildSetpose a.b0 a.b1 a.b2)
  | 0x12 => .ok .buildDeactivate
  | 0x13 => .ok .buildActivate
  | 0x14 => .ok .buildStatuspoll
  | 0x15 => .ok .buildReadstate
  | 0x16 => .ok (.isAck a.seq)
  | 0x17 => .ok (.isActComplete a.seq)
  | 0x18 => .ok (.isActPending a.seq)
  | 0x19 => .ok (.decodeStatus a.seq)
  | _ => .error (.unassignedOp op)

/-- The request frames by length and pattern (R71 to R75, R80). Of a SETPOSE_REQ the pattern fixes offsets 0 to 9; the five
bytes after them are its fields (log 12). -/
def decodeToDevice (f : List Byte) : Except DecodeError Instr :=
  if f = Machine.Wire.deactivate then .ok .deactivateReq
  else if f = Machine.Wire.activate then .ok .activateReq
  else if f = Machine.Wire.statusPoll then .ok .statuspollReq
  else if f = Machine.Wire.readState then .ok .readstateReq
  else if f.take 10 = Machine.Wire.setPosePrefix then
    match f.drop 10 with
    | [p, s, q, lo, hi] => .ok (.setposeReq p s q lo hi)
    | _ => .error .unknownRequest
  else .error .unknownRequest

/-- The reply frames by length and pattern (R76 to R79, R83): any 11 bytes are a STATE_RSP. -/
def decodeFromDevice (f : List Byte) : Except DecodeError Instr :=
  if f.length = 11 then .ok (.stateRsp f)
  else if f = Machine.Wire.ack then .ok .ackRsp
  else if f = Machine.Wire.actComplete then .ok .actCompleteRsp
  else if f = Machine.Wire.actPending then .ok .actPendingRsp
  else .error .unknownReply

/-- The decoder: first by port and direction, then by code or pattern (R83). -/
def decode : Packet → Except DecodeError Instr
  | .host op a => decodeHost op a
  | .toDevice f => decodeToDevice f
  | .fromDevice f => decodeFromDevice f

/-- The encoder, from the same tables: `OP` code and operand lanes (R84), or the bytes of the frame (R71 to R79). -/
def encode : Instr → Packet
  | .isConnected => .host 0x00 .zero
  | .connect => .host 0x01 .zero
  | .disconnect => .host 0x02 .zero
  | .pose p s f => .host 0x03 { Operands.zero with i0 := p, i1 := s, i2 := f }
  | .poseNorm p s f => .host 0x04 { Operands.zero with d0 := p, d1 := s, d2 := f }
  | .getState => .host 0x05 .zero
  | .crc16 bs start len => .host 0x10 { Operands.zero with seq := bs, start := start, len := len }
  | .buildSetpose p s f => .host 0x11 { Operands.zero with b0 := p, b1 := s, b2 := f }
  | .buildDeactivate => .host 0x12 .zero
  | .buildActivate => .host 0x13 .zero
  | .buildStatuspoll => .host 0x14 .zero
  | .buildReadstate => .host 0x15 .zero
  | .isAck bs => .host 0x16 { Operands.zero with seq := bs }
  | .isActComplete bs => .host 0x17 { Operands.zero with seq := bs }
  | .isActPending bs => .host 0x18 { Operands.zero with seq := bs }
  | .decodeStatus bs => .host 0x19 { Operands.zero with seq := bs }
  | .deactivateReq => .toDevice Machine.Wire.deactivate
  | .activateReq => .toDevice Machine.Wire.activate
  | .setposeReq p s f lo hi => .toDevice (Machine.Wire.setPoseBody p s f ++ [lo, hi])
  | .statuspollReq => .toDevice Machine.Wire.statusPoll
  | .readstateReq => .toDevice Machine.Wire.readState
  | .ackRsp => .fromDevice Machine.Wire.ack
  | .actCompleteRsp => .fromDevice Machine.Wire.actComplete
  | .actPendingRsp => .fromDevice Machine.Wire.actPending
  | .stateRsp bs => .fromDevice bs

/-- The `n` bytes of a number, most significant first: spec/opcode_table.json writes a frame with offset 0 leftmost
(log 13). -/
def bytesOf : Nat → Nat → List Byte
  | 0, _ => []
  | n + 1, w => BitVec.ofNat 8 (w >>> (8 * n)) :: bytesOf n w

/-- A packet that the decoder accepts. -/
def decodes (p : Packet) : Bool :=
  match decode p with
  | .ok _ => true
  | .error _ => false

/-- The packet of a table word: a host operation has 5 bits and no operand word (operands zero); a longer row is a frame, a
request or a reply as its length and pattern tell (R83). The table's byte order comes first; a number that is no frame in it
is read with offset 0 in its lowest byte (log 13). -/
def tablePacket (nbits w : Nat) : Packet :=
  let f := bytesOf (nbits / 8) w
  if nbits ≤ 8 then .host (BitVec.ofNat 5 w) .zero
  else if decodes (.toDevice f) then .toDevice f
  else if decodes (.fromDevice f) then .fromDevice f
  else if decodes (.toDevice f.reverse) then .toDevice f.reverse
  else .fromDevice f.reverse

/-- The instruction the decoder reads from a word of spec/opcode_table.json. -/
def decodeTableWord (nbits w : Nat) : Option Instr :=
  match decode (tablePacket nbits w) with
  | .ok i => some i
  | .error _ => none

end Sys2Proof
end

