-- ==== Sys2Proof/Machine/Fetch.lean ====
section
/-! DEFINITION. Where the next instruction comes from (log 1): the host port, the wait set of the lock, the frame in `TXBUF` when
the transport has taken it, the bytes that arrive in RX. And where a table word is put so that the next step runs it. -/

namespace Sys2Proof.Machine

/-- What a step finds: an instruction to run in a state, or a state that needs no instruction. -/
inductive Fetched where
  | run (i : Instr) (s : State)
  | moved (s : State)
  deriving DecidableEq, Repr

/-- A command on the host port: the operation its code names, or IllegalOp with nothing done (R85, R226, R234). -/
def fetchCommand (c : Nat) (op : BitVec 5) (args : Operands) (s : State) : Fetched :=
  match decode (.host op args) with
  | .ok i => .run i (setPort c s)
  | .error _ => .moved (deliver c (.err .illegalOp) s)

/-- A waiting operation gets the lock if it is free (R59). -/
def fetchGrant (k : Nat) (s : State) : Fetched :=
  match s.lock, s.waiters[k]? with
  | .free, some w => .run w.op (setPort w.caller (setWaiters (s.waiters.eraseIdx k) s))
  | _, _ => .moved s

/-- The transport took what a pending `TpWrite` gave it: the frame in `TXBUF` (R21, R43). -/
def fetchWrite (s : State) : Fetched :=
  match dueFrame s with
  | some f =>
    match decode (.toDevice f) with
    | .ok i => .run i s
    | .error _ => .moved (answer .writeOk s)
  | none => .moved (answer .writeOk s)

/-- Bytes arrived: a reply frame, or bytes that are none (R83, R86). -/
def fetchBytes (b : List Byte) (s : State) : Fetched :=
  match decode (.fromDevice b) with
  | .ok i => .run i s
  | .error _ => .moved (answer (.bytes b) s)

/-- No caller acts next: there is no input, or the transport answers a call that only the next holder of the lock can make.
Bytes need no holder, they wait in RX (R60). -/
def noCallerActs : List Input → Bool
  | [] => true
  | .command _ _ _ :: _ => false
  | .grant _ :: _ => false
  | .bytes _ :: _ => false
  | .openOk _ :: _ => true
  | .openRefused :: _ => true
  | .writeOk :: _ => true
  | .writeFailed :: _ => true
  | .timeout :: _ => true
  | .endOfStream :: _ => true
  | .closed _ :: _ => true

/-- The lock is free, an operation waits for it, and no caller acts: the lock goes to a waiter (R59, R275). -/
def handsOver (s : State) : Bool :=
  decide (s.lock = .free ∧ s.waiters ≠ []) && noCallerActs s.inputs

/-- Which waiter that is: any (R59, log 8). -/
def drawnWaiter (s : State) : Nat := Config.nextWaiter s.draws % s.waiters.length

/-- The first input is taken; without one the block waits (R238, R261). -/
def fetchInput (s : State) : Fetched :=
  match s.inputs with
  | [] => .moved s
  | .command c op args :: l => fetchCommand c op args (setInputs l s)
  | .grant k :: l => fetchGrant k (setInputs l s)
  | .writeOk :: l => fetchWrite (setInputs l s)
  | .bytes b :: l => fetchBytes b (setInputs l s)
  | a :: l => .moved (answer a (setInputs l s))

/-- A free lock goes to a waiter unless a caller acts first; else the first input is taken. -/
def fetch (s : State) : Fetched :=
  if handsOver s then fetchGrant (drawnWaiter s) (setDraws (s.draws + 1) s) else fetchInput s

/-- The exchange a request frame belongs to (R71 to R75): the three constant handshake frames, the read-state request, else
set-pose. -/
def exchOf (f : List Byte) : Exch :=
  if f = Wire.deactivate then .deactivate
  else if f = Wire.activate then .activate
  else if f = Wire.statusPoll then .poll
  else if f = Wire.readState then .readState
  else .setPose

/-- A packet put where the next step takes it: a command or arriving bytes become the first input; for a request frame a
`TpWrite` of it is pending under the lock and the first input says that the transport took it. -/
def place (p : Packet) (s : State) : State :=
  match p with
  | .host op args => setInputs (.command s.port op args :: s.inputs) s
  | .fromDevice f => setInputs (.bytes f :: s.inputs) s
  | .toDevice f => setInputs (.writeOk :: s.inputs) (setLock .held (send s.port (exchOf f) f s))

end Sys2Proof.Machine
end

