-- ==== Sys2Proof/Machine/Step.lean ====
section
/-! DEFINITION. One step: what the fetch finds is run. -/

namespace Sys2Proof.Machine

/-- One transition of the system of R6. -/
def step (s : State) : Host.Outcome State Fault Refusal :=
  match fetch s with
  | .run i t => exec i t
  | .moved t => .next t

/-- The instruction of a table word, put where the next step takes it (log 13). -/
def State.withFetchWord (s : State) (nbits w : Nat) : State := place (tablePacket nbits w) s

end Sys2Proof.Machine
end

