-- ==== Sys2Proof/Safety.lean ====
section
/-! DEFINITION. What counts as a safe run: an observer of the event history that knows the transition table of
42_activation_fsm.md R162 and the exchange rules (20_memory.md R57, R83; 41_frame_codec.md R131), and the invariant that ties
the registers to what the observer saw (10_state.md R15, R32). -/

namespace Sys2Proof.Machine

/-- What an observer of the transport calls knows. -/
inductive Phase where
  /-- No transport is held. -/
  | closed
  /-- The handshake is at the write of this exchange. -/
  | due (x : Exch)
  /-- The read of this exchange must come next (R54, R57). -/
  | owed (x : Exch)
  /-- The handshake is done (R157). -/
  | ready
  /-- The handshake has failed; a close must come next (R158). -/
  | failing
  /-- The rules do not allow this history. -/
  | illegal
  deriving DecidableEq, Repr

/-- An exchange of the handshake (R150). -/
def Exch.handshake : Exch → Bool
  | .deactivate => true
  | .activate => true
  | .poll => true
  | .setPose => false
  | .readState => false

/-- The value of `FSM` while an exchange runs (R12, R14). -/
def Exch.fsm : Exch → Fsm
  | .deactivate => .deactivating
  | .activate => .activating
  | .poll => .polling
  | .setPose => .ready
  | .readState => .ready

/-- The frames that may stand in the write of an exchange (R71 to R75, R86): constants, or a set-pose frame whose last two bytes
are the checksum of the others. -/
def requestOk (x : Exch) (f : List Byte) : Bool :=
  match x with
  | .deactivate => decide (f = Wire.deactivate)
  | .activate => decide (f = Wire.activate)
  | .poll => decide (f = Wire.statusPoll)
  | .setPose => decide (f.length = 15 ∧ f.take 10 = Wire.setPosePrefix) && Wire.fresh f
  | .readState => decide (f = Wire.readState)

/-- A read gives all the bytes it was asked for, or none (R44). -/
def ReadEnd.whole (n : Nat) : ReadEnd → Bool
  | .bytes b => b.length == n
  | .timeout => true
  | .endOfStream => true

/-- Where the observer is after the read of an exchange (R153 to R158, R188, R189). -/
def afterRead (x : Exch) (r : ReadEnd) : Phase :=
  match x, r with
  | .deactivate, .bytes b => if b = Wire.ack then .due .activate else .failing
  | .activate, .bytes b => if b = Wire.ack then .due .poll else .failing
  | .poll, .bytes b =>
    if b = Wire.actComplete then .ready else if b = Wire.actPending then .due .poll else .failing
  | .setPose, _ => .ready
  | .readState, _ => .ready
  | _, _ => .failing

/-- Where the observer is after the write of an exchange from a phase in which only this exchange may be written. -/
def afterWrite (x : Exch) (ok : Bool) : Phase :=
  if ok then .owed x else if x.handshake then .failing else .ready

/-- One more event. -/
def watch (p : Phase) (e : Event) : Phase :=
  match p, e with
  | .closed, .opened _ true => .due .deactivate
  | .closed, .opened _ false => .closed
  | .due x, .wrote f ok => if requestOk x f then afterWrite x ok else .illegal
  | .ready, .wrote f ok =>
    if requestOk .setPose f then afterWrite .setPose ok
    else if requestOk .readState f then afterWrite .readState ok
    else .illegal
  | .owed x, .didRead n _ r => if n = x.replyLen ∧ r.whole n then afterRead x r else .illegal
  | .ready, .closed _ => .closed
  | .failing, .closed _ => .closed
  | _, _ => .illegal

/-- What the observer of a whole history knows at its end. -/
def phaseOf (h : List Event) : Phase := h.foldl watch .closed

/-- The history keeps the protocol: half-duplex exchanges in the order of the handshake, every reply read whole, every frame one
the block may send. -/
def safeHistory (h : List Event) : Bool := decide (phaseOf h ≠ .illegal)

/-- `FSM`, `TP`, `OPSTEP` and `TXBUF` are what the observer's phase says (R12, R15, R162). -/
def agrees (p : Phase) (s : State) : Bool :=
  match s.opstep with
  | .idle =>
    decide ((p = .closed ∧ s.fsm = .disconnected ∧ s.tp = .released) ∨ (p = .ready ∧ s.fsm = .ready ∧ s.tp = .held))
  | .busy _ .opening => decide (p = .closed ∧ s.fsm = .connecting ∧ s.tp = .released)
  | .busy _ (.writing x) =>
    decide (p = (if x.handshake then .due x else .ready) ∧ s.fsm = x.fsm ∧ s.tp = .held) &&
      match s.work.txbuf with
      | some f => requestOk x f
      | none => false
  | .busy _ (.reading x) => decide (p = .owed x ∧ s.fsm = x.fsm ∧ s.tp = .held)
  | .busy _ (.failing _) => decide (p = .failing ∧ s.fsm = .faulted ∧ s.tp = .held)
  | .busy _ .closing => decide (p = .ready ∧ s.fsm = .ready ∧ s.tp = .held)

/-- The operations that take the lock (R55, R84). -/
def takesLock : Instr → Bool
  | .connect => true
  | .disconnect => true
  | .pose _ _ _ => true
  | .poseNorm _ _ _ => true
  | .getState => true
  | _ => false

/-- The invariant: the lock is free exactly when no locked operation runs (R32 c, R235), the registers agree with the history,
no working register has a value between operations (R32 d), and only locked operations wait. -/
def consistent (s : State) : Bool :=
  decide (s.lock = .free ↔ s.opstep = .idle) &&
    agrees (phaseOf s.history) s &&
    (decide (s.opstep ≠ .idle) || decide (s.work = Work.empty)) &&
    s.waiters.all fun w => takesLock w.op

/-- The invariant as a proposition. -/
abbrev Consistent (s : State) : Prop := consistent s = true

/-- The transitions of `FSM` that R162 lists, each between two consecutive transport calls. -/
def fsmMove (a b : Fsm) : Bool :=
  match a, b with
  | .disconnected, .connecting => true
  | .connecting, .deactivating => true
  | .connecting, .disconnected => true
  | .deactivating, .activating => true
  | .deactivating, .faulted => true
  | .activating, .polling => true
  | .activating, .faulted => true
  | .polling, .polling => true
  | .polling, .ready => true
  | .polling, .faulted => true
  | .faulted, .disconnected => true
  | .ready, .ready => true
  | .ready, .disconnected => true
  | .disconnected, .disconnected => true
  | _, _ => false

end Sys2Proof.Machine
end

