-- ==== Sys2Proof/WellFormed.lean ====
section
/-! DEFINITION. Which instructions the spec's encodings can carry: a SETPOSE_REQ carries the checksum of its own bytes
(30_encoding.md R73, R86), a STATE_RSP has exactly 11 bytes (R79). Every operand of a host operation is admitted (R81, R181,
R184: clamped, never rejected). -/

namespace Sys2Proof

/-- The check, one arm per constructor. -/
def Instr.wellFormed : Instr → Bool
  | .isConnected => true
  | .connect => true
  | .disconnect => true
  | .pose _ _ _ => true
  | .poseNorm _ _ _ => true
  | .getState => true
  | .crc16 _ _ _ => true
  | .buildSetpose _ _ _ => true
  | .buildDeactivate => true
  | .buildActivate => true
  | .buildStatuspoll => true
  | .buildReadstate => true
  | .isAck _ => true
  | .isActComplete _ => true
  | .isActPending _ => true
  | .decodeStatus _ => true
  | .deactivateReq => true
  | .activateReq => true
  | .setposeReq p s f lo hi =>
      lo == Machine.loByte (Machine.Wire.setPoseCrc p s f) && hi == Machine.hiByte (Machine.Wire.setPoseCrc p s f)
  | .statuspollReq => true
  | .readstateReq => true
  | .ackRsp => true
  | .actCompleteRsp => true
  | .actPendingRsp => true
  | .stateRsp bs => bs.length == 11

/-- An instruction that the spec's encodings can carry. -/
abbrev WellFormed (i : Instr) : Prop := i.wellFormed = true

end Sys2Proof
end

