-- ==== Sys2Proof/Certificates/Slice0/Obligations.lean ====
section
/-! DEFINITION. The statements for the provers. Each docstring names the rule of spec/ it formalises, or the log entry where it
rests on a choice of the model. -/

open Sys2Proof Sys2Proof.Machine

/-! ### Encoding -/

/-- R70 to R80, R84: encoding an instruction and decoding the packet gives it back, for all twenty-five. -/
def Obligations.DecodeOfEncodeIsTheInstruction : Prop :=
  ∀ i : Instr, WellFormed i → decode (encode i) = .ok i

/-- R70 to R80, the other direction for the wire: a frame that decodes is the encoding of what it decodes to, every byte of it. -/
def Obligations.EncodeOfDecodedFrameIsTheFrame : Prop :=
  ∀ (f : List Byte) (i : Instr),
    (decode (.toDevice f) = .ok i → encode i = .toDevice f) ∧
    (decode (.fromDevice f) = .ok i → encode i = .fromDevice f)

/-- R86: the request frames that decode to a well-formed instruction are the four constants and the set-pose frames, one per
(POS, SPD, FRC), and every one of those is such a frame. -/
def Obligations.EmittableFramesAreTheFourConstantsAndTheSetPoses : Prop :=
  ∀ f : List Byte,
    (∃ i, decode (.toDevice f) = .ok i ∧ WellFormed i) ↔
      (f = Wire.deactivate ∨ f = Wire.activate ∨ f = Wire.statusPoll ∨ f = Wire.readState ∨
        ∃ p v q, f = Wire.setPose p v q)

/-- Words written out from the tables of R71 to R84 decode to the instruction they stand for. -/
def Obligations.WordsOfTheTablesDecode : Prop :=
  decode (.host 0x03 { Operands.zero with i0 := 0xFFFFFFF6, i1 := 0x0000012C, i2 := 0x00000080 }) =
      .ok (.pose 0xFFFFFFF6 300 128) ∧
    decode (.host 0x10 { Operands.zero with seq := [0xAA, 0xBB, 0x09], start := 2, len := 1 }) =
      .ok (.crc16 [0xAA, 0xBB, 0x09] 2 1) ∧
    decode (.toDevice [0x09, 0x10, 0x03, 0xE8, 0x00, 0x03, 0x06, 0x09, 0x00, 0x00, 0x00, 0xFF, 0x80, 0x33, 0xF9]) =
      .ok (.setposeReq 0x00 0xFF 0x80 0x33 0xF9) ∧
    decode (.fromDevice [0x09, 0x03, 0x02, 0x31, 0x00, 0x4C, 0x15]) = .ok .actPendingRsp

/-- R85: a code that names no operation returns IllegalOp, and nothing else happens: no state changes, no transport call, no
lock. -/
def Obligations.UnassignedOpReturnsIllegalOp : Prop :=
  ∀ (s : State) (c : Nat) (op : BitVec 5) (args : Operands) (rest : List Input),
    s.inputs = .command c op args :: rest →
    ((0x06 ≤ op.toNat ∧ op.toNat ≤ 0x0F) ∨ 0x1A ≤ op.toNat) →
    step s = .next { s with inputs := rest, results := s.results ++ [⟨c, .err .illegalOp⟩] }

/-! ### The step -/

/-- A step runs the decoded instruction (log 1): a command at the host port, bytes that arrive and are a reply frame, the frame
in TXBUF when the transport has taken it, the waiting operation that the outside gives the free lock, and, while no caller acts,
a waiting operation that the free value of log 8 picks (R59: whichever it is; R275: one of them). -/
def Obligations.StepRunsTheDecodedInstruction : Prop :=
  (∀ (s : State) (c : Nat) (op : BitVec 5) (args : Operands) (rest : List Input) (i : Instr),
      s.inputs = .command c op args :: rest → decode (.host op args) = .ok i →
      step s = exec i { s with inputs := rest, port := c }) ∧
    (∀ (s : State) (b : List Byte) (rest : List Input) (i : Instr),
      s.inputs = .bytes b :: rest → decode (.fromDevice b) = .ok i →
      step s = exec i { s with inputs := rest }) ∧
    (∀ (s : State) (f : List Byte) (rest : List Input) (i : Instr),
      s.inputs = .writeOk :: rest → s.lock = .held → dueFrame s = some f → decode (.toDevice f) = .ok i →
      step s = exec i { s with inputs := rest }) ∧
    (∀ (s : State) (k : Nat) (w : Waiter) (rest : List Input),
      s.inputs = .grant k :: rest → s.lock = .free → s.waiters[k]? = some w →
      step s = exec w.op { s with inputs := rest, waiters := s.waiters.eraseIdx k, port := w.caller }) ∧
    (∀ s : State, s.lock = .free → s.waiters ≠ [] →
      (s.inputs = [] ∨ ∃ a rest, s.inputs = a :: rest ∧ a.isAnswer = true ∧ ∀ b, a ≠ .bytes b) →
      ∃ (k : Nat) (w : Waiter), k = Config.nextWaiter s.draws % s.waiters.length ∧ s.waiters[k]? = some w ∧
        step s = exec w.op { s with waiters := s.waiters.eraseIdx k, port := w.caller, draws := s.draws + 1 })

/-- R220: no operation and no frame stops the block, in any state, and no step does. -/
def Obligations.NothingStopsTheBlock : Prop :=
  (∀ (i : Instr) (s : State), ∃ t, exec i s = .next t) ∧ ∀ s : State, ∃ t, step s = .next t

/-! ### Checksum Engine -/

/-- R101: the bit step over the numbers. R102: the byte step is eight bit steps from the register XOR the zero-extended byte. -/
def Obligations.BitStepHalvesAndXors : Prop :=
  (∀ c : Word16, bitStep c =
    if c.toNat % 2 = 1 then BitVec.ofNat 16 (c.toNat / 2) ^^^ 0xA001#16 else BitVec.ofNat 16 (c.toNat / 2)) ∧
  ∀ (c : Word16) (b : Byte), byteStep c b = bitStep^[8] (c ^^^ BitVec.ofNat 16 b.toNat)

/-- R103: the code 0x10 is CRC16 of the operands; CRC16 is the loop of the rule over offsets `start` to `start + length - 1`; it
returns low byte, then high byte, and touches no state. -/
def Obligations.Crc16RunsTheLoop : Prop :=
  (∀ a : Operands, decode (.host 0x10 a) = .ok (.crc16 a.seq a.start a.len)) ∧
  ∀ (bs : List Byte) (start len : Int) (s : State), 0 ≤ start → 0 ≤ len → start + len ≤ bs.length →
    let c := (List.range len.toNat).foldl (fun c i => byteStep c (bs.getD (start.toNat + i) 0)) 0xFFFF#16
    exec (.crc16 bs start len) s =
      .next { s with results := s.results ++ [⟨s.port, .ok (.pair (c.extractLsb' 0 8) (c.extractLsb' 8 8))⟩] }

/-- R104, R226: a negative start, a negative length, or a range that reaches past the end of the sequence is refused with
IllegalOp, nothing computed. -/
def Obligations.Crc16OutsideItsRangeIsIllegalOp : Prop :=
  ∀ (bs : List Byte) (start len : Int) (s : State), start < 0 ∨ len < 0 ∨ bs.length < start + len →
    exec (.crc16 bs start len) s = .next { s with results := s.results ++ [⟨s.port, .err .illegalOp⟩] }

/-- R105: in any two states, whatever their connection state and whoever holds the lock, CRC16 of equal operands gives equal
results and changes nothing. -/
def Obligations.Crc16IsTheSameInEveryState : Prop :=
  ∀ (bs : List Byte) (start len : Int), ∃ r : Result, ∀ s : State,
    exec (.crc16 bs start len) s = .next { s with results := s.results ++ [⟨s.port, r⟩] }

/-- 40_checksum.md section 4, law (c) of R107: for each byte the byte step is a bijection of the register. -/
def Obligations.ByteStepIsABijection : Prop :=
  ∀ b : Byte, Function.Bijective fun c : Word16 => byteStep c b

/-- 40_checksum.md section 4, law (a) of R107: a sequence followed by its own checksum, low byte first, leaves the register 0. -/
def Obligations.AppendedChecksumLeavesZero : Prop :=
  ∀ m : List Byte, crcOf (m ++ [(crcOf m).extractLsb' 0 8, (crcOf m).extractLsb' 8 8]) = 0#16

/-! ### Frame Codec -/

/-- R121 and R48: the code 0x11 is BUILD_SETPOSE of the three byte operands; it returns the ten constant bytes, the three operands
and the checksum of those thirteen bytes, low byte first, fifteen bytes in all, and touches no state. -/
def Obligations.BuildSetposeReturnsTheFrame : Prop :=
  (∀ a : Operands, decode (.host 0x11 a) = .ok (.buildSetpose a.b0 a.b1 a.b2)) ∧
  ∀ (p v f : Byte) (s : State),
    let body : List Byte := [0x09, 0x10, 0x03, 0xE8, 0x00, 0x03, 0x06, 0x09, 0x00, 0x00, p, v, f]
    let c := body.foldl byteStep 0xFFFF#16
    let frame := body ++ [c.extractLsb' 0 8, c.extractLsb' 8 8]
    frame.length = 15 ∧
      exec (.buildSetpose p v f) s = .next { s with results := s.results ++ [⟨s.port, .ok (.frame frame)⟩] }

/-- R122 to R125: the codes 0x12 to 0x15 are the constant builders, which return their frame in every state and touch no
state. -/
def Obligations.ConstantBuildersReturnTheirFrame : Prop :=
  (∀ a : Operands, decode (.host 0x12 a) = .ok .buildDeactivate ∧ decode (.host 0x13 a) = .ok .buildActivate ∧
    decode (.host 0x14 a) = .ok .buildStatuspoll ∧ decode (.host 0x15 a) = .ok .buildReadstate) ∧
  ∀ s : State,
    exec .buildDeactivate s = .next { s with results := s.results ++ [⟨s.port, .ok (.frame
      [0x09, 0x10, 0x03, 0xE8, 0x00, 0x03, 0x06, 0x00, 0x00, 0x00, 0x00, 0x00, 0x00, 0x73, 0x30])⟩] } ∧
    exec .buildActivate s = .next { s with results := s.results ++ [⟨s.port, .ok (.frame
      [0x09, 0x10, 0x03, 0xE8, 0x00, 0x03, 0x06, 0x01, 0x00, 0x00, 0x00, 0x00, 0x00, 0x72, 0xE1])⟩] } ∧
    exec .buildStatuspoll s = .next { s with results := s.results ++ [⟨s.port, .ok (.frame
      [0x09, 0x03, 0x07, 0xD0, 0x00, 0x01, 0x85, 0xCF])⟩] } ∧
    exec .buildReadstate s = .next { s with results := s.results ++ [⟨s.port, .ok (.frame
      [0x09, 0x03, 0x07, 0xD0, 0x00, 0x03, 0x04, 0x0E])⟩] }

/-- R126 to R129: the codes 0x16 to 0x18 are the recognisers; each is true of its constant and false of everything else, of
any length, raises nothing and touches no state. -/
def Obligations.RecognisersCompareExactly : Prop :=
  (∀ a : Operands, decode (.host 0x16 a) = .ok (.isAck a.seq) ∧ decode (.host 0x17 a) = .ok (.isActComplete a.seq) ∧
    decode (.host 0x18 a) = .ok (.isActPending a.seq)) ∧
  ∀ (r : List Byte) (s : State),
    exec (.isAck r) s = .next { s with results := s.results ++ [⟨s.port, .ok (.flag
      (decide (r = [0x09, 0x10, 0x03, 0xE8, 0x00, 0x03, 0x01, 0x30])))⟩] } ∧
    exec (.isActComplete r) s = .next { s with results := s.results ++ [⟨s.port, .ok (.flag
      (decide (r = [0x09, 0x03, 0x02, 0x11, 0x00, 0x55, 0xD5])))⟩] } ∧
    exec (.isActPending r) s = .next { s with results := s.results ++ [⟨s.port, .ok (.flag
      (decide (r = [0x09, 0x03, 0x02, 0x31, 0x00, 0x4C, 0x15])))⟩] }

/-- R134: the two 7-byte constants differ at offsets 3, 5 and 6 and the ack has another length; at most one recogniser is true of
any sequence, so the order of the tests in the poll step does not matter. -/
def Obligations.AtMostOneRecogniserIsTrue : Prop :=
  (∀ i, i < 7 → (Wire.actComplete.getD i 0 ≠ Wire.actPending.getD i 0 ↔ i = 3 ∨ i = 5 ∨ i = 6)) ∧
  Wire.ack.length ≠ Wire.actComplete.length ∧ Wire.ack.length ≠ Wire.actPending.length ∧
  ∀ r : List Byte,
    ¬ (isActComplete r = true ∧ isActPending r = true) ∧
    ¬ (isAck r = true ∧ isActComplete r = true) ∧
    ¬ (isAck r = true ∧ isActPending r = true)

/-! ### Status Decoder -/

/-- R200: the code 0x19 is DECODE_STATUS; eleven bytes give the record of the rule, every other length gives
DecodeError.BadLength and no record, and no state is touched (R233). R214: the five accessors read that record. -/
def Obligations.DecodeStatusFollowsTheFieldTable : Prop :=
  (∀ a : Operands, decode (.host 0x19 a) = .ok (.decodeStatus a.seq)) ∧
  (∀ (b0 b1 b2 b3 b4 b5 b6 b7 b8 b9 b10 : Byte) (s : State), ∃ r : GripperStatus,
      exec (.decodeStatus [b0, b1, b2, b3, b4, b5, b6, b7, b8, b9, b10]) s =
        .next { s with results := s.results ++ [⟨s.port, .ok (.status r)⟩] } ∧
      r.act.toNat = b3.toNat % 2 ∧ r.gto.toNat = b3.toNat / 8 % 2 ∧
      r.gphase.toNat = b3.toNat / 16 % 4 ∧ r.ophase.toNat = b3.toNat / 64 ∧
      r.fault = b5 ∧ r.posEcho = b6 ∧ r.posMeas = b7 ∧ r.curMA.toNat = b8.toNat * 10 ∧
      isActive r = decide (b3.toNat % 2 = 1) ∧ isOnGoToPosition r = decide (b3.toNat / 8 % 2 = 1) ∧
      (gripperPhase r).toNat = b3.toNat / 16 % 4 ∧ (objectDetectionPhase r).toNat = b3.toNat / 64 ∧
      (getCurrent r).toNat = b8.toNat * 10) ∧
    (∀ (bs : List Byte) (s : State), bs.length ≠ 11 →
      exec (.decodeStatus bs) s = .next { s with results := s.results ++ [⟨s.port, .err .badLength⟩] })

/-- R210: two eleven-byte sequences that agree in bits 0, 3, 4, 5, 6, 7 of byte 3 and in bytes 5, 6, 7, 8 decode to equal
records. -/
def Obligations.UnreadStatusBitsDoNotMatter : Prop :=
  ∀ r q : List Byte, r.length = 11 → q.length = 11 →
    r.getD 3 0 &&& 0xF9#8 = q.getD 3 0 &&& 0xF9#8 →
    r.getD 5 0 = q.getD 5 0 → r.getD 6 0 = q.getD 6 0 → r.getD 7 0 = q.getD 7 0 → r.getD 8 0 = q.getD 8 0 →
    decodeStatus r = decodeStatus q

/-! ### CONNECT, DISCONNECT, IS_CONNECTED -/

/-- R161: the code 0x00 is IS_CONNECTED; it returns whether FSM is Ready, in every state, with the lock free or held, and changes
nothing. -/
def Obligations.IsConnectedReportsReady : Prop :=
  (∀ a : Operands, decode (.host 0x00 a) = .ok .isConnected) ∧
  ∀ s : State, exec .isConnected s =
    .next { s with results := s.results ++ [⟨s.port, .ok (.flag (decide (s.fsm = .ready)))⟩] }

/-- R151, R155, R157: the code 0x01 is CONNECT; with the lock free and FSM not Ready it opens, deactivates, activates, polls
through any number `k` of pending replies and returns Ok at the complete reply, with FSM Ready, TP held, SYNC insync, the lock
free, and exactly these transport calls on record. The incoming stream is empty at the open, and each reply arrives whole. -/
def Obligations.ConnectRunsTheHandshake : Prop :=
  (∀ a : Operands, decode (.host 0x01 a) = .ok .connect) ∧
  ∀ (k : Nat) (rest : List Input) (s : State), s.lock = .free → s.fsm ≠ .ready →
    s.inputs = [.openOk [], .writeOk, .bytes Wire.ack, .writeOk, .bytes Wire.ack] ++
      (List.replicate k [Input.writeOk, .bytes Wire.actPending]).flatten ++
      [.writeOk, .bytes Wire.actComplete] ++ rest →
    exec .connect s = .next { s with
      fsm := .ready, tp := .held, sync := .insync, opstep := .idle, work := Work.empty, rx := [], inputs := rest
      history := s.history ++
        [.opened s.tpParams true,
          .wrote Wire.deactivate true, .didRead 8 s.timeout (.bytes Wire.ack),
          .wrote Wire.activate true, .didRead 8 s.timeout (.bytes Wire.ack)] ++
        (List.replicate k
          [Event.wrote Wire.statusPoll true, .didRead 7 s.timeout (.bytes Wire.actPending)]).flatten ++
        [.wrote Wire.statusPoll true, .didRead 7 s.timeout (.bytes Wire.actComplete)]
      results := s.results ++ [⟨s.port, .ok .unit⟩] }

/-- R156: however many pending replies come, CONNECT has returned nothing, FSM is Polling, the lock is held, and the next
status-poll request is due. -/
def Obligations.PollLoopHasNoBound : Prop :=
  ∀ (k : Nat) (s : State), s.lock = .free → s.fsm ≠ .ready →
    s.inputs = [.openOk [], .writeOk, .bytes Wire.ack, .writeOk, .bytes Wire.ack] ++
      (List.replicate k [Input.writeOk, .bytes Wire.actPending]).flatten →
    ∃ t, exec .connect s = .next t ∧ t.fsm = .polling ∧ t.tp = .held ∧ t.lock = .held ∧
      t.opstep = .busy s.port (.writing .poll) ∧ dueFrame t = some Wire.statusPoll ∧ t.results = s.results ∧
      t.history.length = s.history.length + 5 + 2 * k

/-- R152: CONNECT in Ready returns Ok and does nothing else, whatever SYNC is (the premise holds in every reachable state). -/
def Obligations.ConnectInReadyIsANoOp : Prop :=
  ∀ s : State, Consistent s → s.lock = .free → s.fsm = .ready →
    exec .connect s = .next { s with results := s.results ++ [⟨s.port, .ok .unit⟩] }

/-- R152, R230, R262: a refused open ends in Disconnected with TransportError.ConnectionRefused and without a close, and from a
consistent state the persistent state is then that of reset. SYNC insync after it is the reading of R230 that log 15 names. -/
def Obligations.RefusedOpenEndsDisconnected : Prop :=
  ∀ (s : State) (rest : List Input), s.lock = .free → s.fsm ≠ .ready → s.inputs = .openRefused :: rest →
    let t : State := { s with
      fsm := .disconnected, sync := .insync, opstep := .idle, work := Work.empty, inputs := rest
      history := s.history ++ [.opened s.tpParams false]
      results := s.results ++ [⟨s.port, .err .connectionRefused⟩] }
    exec .connect s = .next t ∧ (Consistent s → persistent t = persistent State.reset)

/-- R153 to R155, R158, R223, R230: a reply that the handshake step does not accept closes the transport, whatever the close
reports, and ends in Disconnected with the ActivationError of that step, SYNC insync; no frame is written after it. At the poll
any number `k` of pending replies may have come before. -/
def Obligations.RejectedHandshakeStepEndsDisconnected : Prop :=
  ∀ (b : List Byte) (ok : Bool) (rest : List Input) (s : State), s.lock = .free → s.fsm ≠ .ready →
    (s.inputs = [.openOk [], .writeOk, .bytes b, .closed ok] ++ rest → b.length = 8 → b ≠ Wire.ack →
      exec .connect s = .next { s with
        fsm := .disconnected, tp := .released, sync := .insync, opstep := .idle, work := Work.empty, rx := []
        inputs := rest
        history := s.history ++
          [.opened s.tpParams true, .wrote Wire.deactivate true, .didRead 8 s.timeout (.bytes b), .closed ok]
        results := s.results ++ [⟨s.port, .err .deactivateRejected⟩] }) ∧
    (s.inputs = [.openOk [], .writeOk, .bytes Wire.ack, .writeOk, .bytes b, .closed ok] ++ rest →
      b.length = 8 → b ≠ Wire.ack →
      exec .connect s = .next { s with
        fsm := .disconnected, tp := .released, sync := .insync, opstep := .idle, work := Work.empty, rx := []
        inputs := rest
        history := s.history ++
          [.opened s.tpParams true, .wrote Wire.deactivate true, .didRead 8 s.timeout (.bytes Wire.ack),
            .wrote Wire.activate true, .didRead 8 s.timeout (.bytes b), .closed ok]
        results := s.results ++ [⟨s.port, .err .activateRejected⟩] }) ∧
    (∀ k : Nat, s.inputs = [.openOk [], .writeOk, .bytes Wire.ack, .writeOk, .bytes Wire.ack] ++
        (List.replicate k [Input.writeOk, .bytes Wire.actPending]).flatten ++ [.writeOk, .bytes b, .closed ok] ++ rest →
      b.length = 7 → b ≠ Wire.actComplete → b ≠ Wire.actPending →
      exec .connect s = .next { s with
        fsm := .disconnected, tp := .released, sync := .insync, opstep := .idle, work := Work.empty, rx := []
        inputs := rest
        history := s.history ++
          [.opened s.tpParams true, .wrote Wire.deactivate true, .didRead 8 s.timeout (.bytes Wire.ack),
            .wrote Wire.activate true, .didRead 8 s.timeout (.bytes Wire.ack)] ++
          (List.replicate k
            [Event.wrote Wire.statusPoll true, .didRead 7 s.timeout (.bytes Wire.actPending)]).flatten ++
          [.wrote Wire.statusPoll true, .didRead 7 s.timeout (.bytes b), .closed ok]
        results := s.results ++ [⟨s.port, .err .restartError⟩] })

/-- R57, R158, R230: a transport error in any exchange of the handshake passes through Faulted with the transport still held;
SYNC is indeterminate until the close, which ends CONNECT in Disconnected with that TransportError and the persistent state of
reset. After a failed write no read is made. Two choices of the model show here: that SYNC, which R57 makes indeterminate, is
insync after the close (the model's reading of R230 and R262, since no line of R151 writes it there; log 15), and which bytes of
RX a failed read loses (log 9). -/
def Obligations.HandshakeTransportErrorPassesThroughFaulted : Prop :=
  ∀ (c : Nat) (x : Exch) (ok : Bool) (rest : List Input) (s : State), x.handshake = true → s.tp = .held → s.lock = .held →
    (∀ f, s.opstep = .busy c (.writing x) → s.work.txbuf = some f → s.inputs = .writeFailed :: .closed ok :: rest →
      (∃ t, step s = .next t ∧ t.fsm = .faulted ∧ t.tp = .held ∧ t.sync = .indeterminate) ∧
      Sys2Proof.core.run 2 s = .next { s with
        fsm := .disconnected, tp := .released, lock := .free, sync := .insync, opstep := .idle, work := Work.empty
        inputs := rest
        history := s.history ++ [.wrote f false, .closed ok]
        results := s.results ++ [⟨c, .err .writeFailed⟩] }) ∧
    (s.opstep = .busy c (.reading x) → s.inputs = .timeout :: .closed ok :: rest →
      (∃ t, step s = .next t ∧ t.fsm = .faulted ∧ t.tp = .held ∧ t.sync = .indeterminate) ∧
      Sys2Proof.core.run 2 s = .next { s with
        fsm := .disconnected, tp := .released, lock := .free, sync := .insync, opstep := .idle, work := Work.empty
        rx := s.rx.drop (x.replyLen - 1), inputs := rest
        history := s.history ++ [.didRead x.replyLen s.timeout .timeout, .closed ok]
        results := s.results ++ [⟨c, .err .timeout⟩] }) ∧
    (s.opstep = .busy c (.reading x) → s.inputs = .endOfStream :: .closed ok :: rest →
      (∃ t, step s = .next t ∧ t.fsm = .faulted ∧ t.tp = .held ∧ t.sync = .indeterminate) ∧
      Sys2Proof.core.run 2 s = .next { s with
        fsm := .disconnected, tp := .released, lock := .free, sync := .insync, opstep := .idle, work := Work.empty
        rx := s.rx.drop (x.replyLen - 1), inputs := rest
        history := s.history ++ [.didRead x.replyLen s.timeout .endOfStream, .closed ok]
        results := s.results ++ [⟨c, .err .endOfStream⟩] })

/-- R160: the code 0x02 is DISCONNECT; it is a no-op in Disconnected; from every other state it closes the transport, whatever the
close reports, and ends in Disconnected with SYNC not written and no frame written; it waits while another operation holds the lock. -/
def Obligations.DisconnectReleasesTheTransport : Prop :=
  (∀ a : Operands, decode (.host 0x02 a) = .ok .disconnect) ∧
  ∀ s : State,
    (s.lock = .free → s.fsm = .disconnected →
      exec .disconnect s = .next { s with
        opstep := .idle, work := Work.empty, results := s.results ++ [⟨s.port, .ok .unit⟩] }) ∧
    (∀ (ok : Bool) (rest : List Input), s.lock = .free → s.fsm ≠ .disconnected → s.inputs = .closed ok :: rest →
      exec .disconnect s = .next { s with
        fsm := .disconnected, tp := .released, opstep := .idle, work := Work.empty, inputs := rest
        history := s.history ++ [.closed ok]
        results := s.results ++ [⟨s.port, .ok .unit⟩] }) ∧
    (s.lock = .held →
      exec .disconnect s = .next { s with waiters := s.waiters ++ [⟨s.port, .disconnect⟩] })

/-- R45, R245, R262: what the close reports changes nothing but its own entry in the history, at both places a close is made, and
the persistent state after it is that of reset; it is that of reset whenever the block is Disconnected with the lock free. That
SYNC reads insync without a transport is the model's reading (log 15). -/
def Obligations.CloseErrorsAreSwallowed : Prop :=
  (∀ s : State, Consistent s → s.lock = .free → s.fsm = .disconnected → persistent s = persistent State.reset) ∧
  ∀ (s : State) (c : Nat) (e : Error), s.opstep = .busy c (.failing e) ∨ s.opstep = .busy c .closing →
    ∃ t : State, ∀ ok : Bool, answer (.closed ok) s = { t with history := s.history ++ [.closed ok] } ∧
      persistent t = persistent State.reset

/-- R162: the answers of the transport move FSM only along the transitions of the table. -/
def Obligations.TransportAnswersFollowTheTransitionTable : Prop :=
  ∀ (a : Input) (s : State), Consistent s →
    (answer a s).fsm = s.fsm ∨ fsmMove s.fsm (answer a s).fsm = true

/-- R14: of the host operations, only CONNECT and DISCONNECT write FSM and TP, whatever the transport answers. -/
def Obligations.OnlyConnectAndDisconnectWriteFsm : Prop :=
  ∀ (i : Instr) (s t : State), (∃ op args, encode i = .host op args) → i ≠ .connect → i ≠ .disconnect →
    exec i s = .next t → t.fsm = s.fsm ∧ t.tp = s.tp

/-! ### The lock -/

/-- R55: the five locked operations wait when the lock is held; nothing else changes. -/
def Obligations.LockedOperationsWait : Prop :=
  ∀ (i : Instr) (s : State), takesLock i = true → s.lock = .held →
    exec i s = .next { s with waiters := s.waiters ++ [⟨s.port, i⟩] }

/-- R235: when an answer of the transport makes an operation return, the lock is free by then. -/
def Obligations.LockIsReleasedWhenAResultIsDelivered : Prop :=
  ∀ (a : Input) (s : State), (answer a s).results ≠ s.results →
    (answer a s).lock = .free ∧ (answer a s).opstep = .idle ∧ (answer a s).work = Work.empty

/-! ### POSE, POSE_NORM, GET_STATE -/

/-- R180: the code 0x03 is POSE of the three signed operands. In Ready, with the lock free and the transport answering, it writes
the set-pose frame of the clamped operands, reads 8 bytes, and returns Ok if they are the ack and ProtocolError.SendRejected if
they are anything else; nothing else changes. The 8 bytes are the first of what waits in RX and what arrives (R60). -/
def Obligations.PoseWritesAndRequiresTheAck : Prop :=
  (∀ a : Operands, decode (.host 0x03 a) = .ok (.pose a.i0 a.i1 a.i2)) ∧
  ∀ (p v f : BitVec 32) (b : List Byte) (rest : List Input) (s : State), s.lock = .free → s.fsm = .ready →
    s.inputs = .writeOk :: .bytes b :: rest → 8 ≤ (s.rx ++ b).length →
    exec (.pose p v f) s = .next { s with
      opstep := .idle, work := Work.empty, rx := (s.rx ++ b).drop 8, inputs := rest
      history := s.history ++ [.wrote (Wire.setPose (clamp255 p) (clamp255 v) (clamp255 f)) true,
        .didRead 8 s.timeout (.bytes ((s.rx ++ b).take 8))]
      results := s.results ++
        [⟨s.port, if (s.rx ++ b).take 8 = Wire.ack then .ok .unit else .err .sendRejected⟩] }

/-- R182, R184: the code 0x04 is POSE_NORM of the three binary64 operands; it does the same with the scaled operands. Three free
bytes are drawn, used only for NaN operands; the counter that grows by three is the model's own field (log 7). -/
def Obligations.PoseNormWritesAndRequiresTheAck : Prop :=
  (∀ a : Operands, decode (.host 0x04 a) = .ok (.poseNorm a.d0 a.d1 a.d2)) ∧
  ∀ (p v f : BitVec 64) (b : List Byte) (rest : List Input) (s : State), s.lock = .free → s.fsm = .ready →
    s.inputs = .writeOk :: .bytes b :: rest → 8 ≤ (s.rx ++ b).length →
    exec (.poseNorm p v f) s = .next { s with
      opstep := .idle, work := Work.empty, rx := (s.rx ++ b).drop 8, inputs := rest, draws := s.draws + 3
      history := s.history ++ [.wrote (Wire.setPose (scale255 (Config.nanByte s.draws) p)
          (scale255 (Config.nanByte (s.draws + 1)) v) (scale255 (Config.nanByte (s.draws + 2)) f)) true,
        .didRead 8 s.timeout (.bytes ((s.rx ++ b).take 8))]
      results := s.results ++
        [⟨s.port, if (s.rx ++ b).take 8 = Wire.ack then .ok .unit else .err .sendRejected⟩] }

/-- R185, R190, R211: the code 0x05 is GET_STATE; in Ready it writes READSTATE_REQ, reads 11 bytes and returns the record decoded
from them, whatever they are; nothing else changes. -/
def Obligations.GetStateReturnsTheDecodedReply : Prop :=
  (∀ a : Operands, decode (.host 0x05 a) = .ok .getState) ∧
  ∀ (b : List Byte) (rest : List Input) (s : State), s.lock = .free → s.fsm = .ready →
    s.inputs = .writeOk :: .bytes b :: rest → 11 ≤ (s.rx ++ b).length →
    ∃ st, decodeStatus ((s.rx ++ b).take 11) = some st ∧
      exec .getState s = .next { s with
        opstep := .idle, work := Work.empty, rx := (s.rx ++ b).drop 11, inputs := rest
        history := s.history ++ [.wrote Wire.readState true, .didRead 11 s.timeout (.bytes ((s.rx ++ b).take 11))]
        results := s.results ++ [⟨s.port, .ok (.status st)⟩] }

/-- R187, R225, R234: outside Ready the three operations are refused with NotConnected after taking and releasing the lock; no
transport call is made, no state changes, and the only such state under the lock is Disconnected. -/
def Obligations.CommandsOutsideReadyAreNotConnected : Prop :=
  ∀ s : State, Consistent s → s.lock = .free → s.fsm ≠ .ready →
    s.fsm = .disconnected ∧
    (∀ p v f, exec (.pose p v f) s = .next { s with results := s.results ++ [⟨s.port, .err .notConnected⟩] }) ∧
    (∀ p v f, exec (.poseNorm p v f) s = .next { s with results := s.results ++ [⟨s.port, .err .notConnected⟩] }) ∧
    exec .getState s = .next { s with results := s.results ++ [⟨s.port, .err .notConnected⟩] }

/-- R188, R231: eight bytes that are not the ack end POSE and POSE_NORM in ProtocolError.SendRejected; FSM, TP and SYNC stay. The
counter of drawn free bytes is the model's own field (log 7). -/
def Obligations.RejectedSendStaysReady : Prop :=
  ∀ (b : List Byte) (rest : List Input) (s : State), s.lock = .free → s.fsm = .ready →
    s.inputs = .writeOk :: .bytes b :: rest → 8 ≤ (s.rx ++ b).length → (s.rx ++ b).take 8 ≠ Wire.ack →
    let g (p v f : BitVec 64) : List Byte := Wire.setPose (scale255 (Config.nanByte s.draws) p)
      (scale255 (Config.nanByte (s.draws + 1)) v) (scale255 (Config.nanByte (s.draws + 2)) f)
    (∀ p v f, exec (.pose p v f) s = .next { s with
      opstep := .idle, work := Work.empty, rx := (s.rx ++ b).drop 8, inputs := rest
      history := s.history ++ [.wrote (Wire.setPose (clamp255 p) (clamp255 v) (clamp255 f)) true,
        .didRead 8 s.timeout (.bytes ((s.rx ++ b).take 8))]
      results := s.results ++ [⟨s.port, .err .sendRejected⟩] }) ∧
    (∀ p v f, exec (.poseNorm p v f) s = .next { s with
      opstep := .idle, work := Work.empty, rx := (s.rx ++ b).drop 8, inputs := rest, draws := s.draws + 3
      history := s.history ++ [.wrote (g p v f) true, .didRead 8 s.timeout (.bytes ((s.rx ++ b).take 8))]
      results := s.results ++ [⟨s.port, .err .sendRejected⟩] })

/-- R43, R189, R232: a failed write in Ready skips the read and ends the operation in TransportError.WriteFailed; FSM stays Ready
and TP as it was, SYNC becomes indeterminate. The counter of drawn free bytes is the model's own field (log 7). -/
def Obligations.FailedWriteInReadySkipsTheRead : Prop :=
  ∀ (rest : List Input) (s : State), s.lock = .free → s.fsm = .ready → s.inputs = .writeFailed :: rest →
    let g (p v f : BitVec 64) : List Byte := Wire.setPose (scale255 (Config.nanByte s.draws) p)
      (scale255 (Config.nanByte (s.draws + 1)) v) (scale255 (Config.nanByte (s.draws + 2)) f)
    (∀ p v f, exec (.pose p v f) s = .next { s with
      sync := .indeterminate, opstep := .idle, work := Work.empty, inputs := rest
      history := s.history ++ [.wrote (Wire.setPose (clamp255 p) (clamp255 v) (clamp255 f)) false]
      results := s.results ++ [⟨s.port, .err .writeFailed⟩] }) ∧
    (∀ p v f, exec (.poseNorm p v f) s = .next { s with
      sync := .indeterminate, opstep := .idle, work := Work.empty, inputs := rest, draws := s.draws + 3
      history := s.history ++ [.wrote (g p v f) false]
      results := s.results ++ [⟨s.port, .err .writeFailed⟩] }) ∧
    exec .getState s = .next { s with
      sync := .indeterminate, opstep := .idle, work := Work.empty, inputs := rest
      history := s.history ++ [.wrote Wire.readState false]
      results := s.results ++ [⟨s.port, .err .writeFailed⟩] }

/-- R44, R189, R232: a read that times out, or whose stream ends, in Ready ends the operation in that TransportError without a
partial status; FSM stays Ready and TP as it was, SYNC becomes indeterminate, and the bytes that had arrived are lost (log 9). The
counter of drawn free bytes is the model's own field (log 7). -/
def Obligations.FailedReadInReadyStaysReady : Prop :=
  ∀ (a : Input) (r : ReadEnd) (e : Error) (rest : List Input) (s : State), s.lock = .free → s.fsm = .ready →
    (a = .timeout ∧ r = .timeout ∧ e = .timeout) ∨ (a = .endOfStream ∧ r = .endOfStream ∧ e = .endOfStream) →
    s.inputs = .writeOk :: a :: rest →
    let g (p v f : BitVec 64) : List Byte := Wire.setPose (scale255 (Config.nanByte s.draws) p)
      (scale255 (Config.nanByte (s.draws + 1)) v) (scale255 (Config.nanByte (s.draws + 2)) f)
    (∀ p v f, exec (.pose p v f) s = .next { s with
      sync := .indeterminate, opstep := .idle, work := Work.empty, rx := s.rx.drop 7, inputs := rest
      history := s.history ++ [.wrote (Wire.setPose (clamp255 p) (clamp255 v) (clamp255 f)) true,
        .didRead 8 s.timeout r]
      results := s.results ++ [⟨s.port, .err e⟩] }) ∧
    (∀ p v f, exec (.poseNorm p v f) s = .next { s with
      sync := .indeterminate, opstep := .idle, work := Work.empty, rx := s.rx.drop 7, inputs := rest
      draws := s.draws + 3
      history := s.history ++ [.wrote (g p v f) true, .didRead 8 s.timeout r]
      results := s.results ++ [⟨s.port, .err e⟩] }) ∧
    exec .getState s = .next { s with
      sync := .indeterminate, opstep := .idle, work := Work.empty, rx := s.rx.drop 10, inputs := rest
      history := s.history ++ [.wrote Wire.readState true, .didRead 11 s.timeout r]
      results := s.results ++ [⟨s.port, .err e⟩] }

/-- R19 to R21, R180: while its write waits for the transport, a POSE holds the lock, its clamped operands, the checksum and the
frame with its length in the working registers. -/
def Obligations.WaitingPoseHoldsItsRegisters : Prop :=
  ∀ (p v f : BitVec 32) (s : State), s.lock = .free → s.fsm = .ready → s.inputs = [] →
    exec (.pose p v f) s = .next { s with
      lock := .held, opstep := .busy s.port (.writing .setPose)
      work := { s.work with
        pos := some (clamp255 p), spd := some (clamp255 v), frc := some (clamp255 f)
        crc := some (Wire.setPoseCrc (clamp255 p) (clamp255 v) (clamp255 f))
        txbuf := some (Wire.setPose (clamp255 p) (clamp255 v) (clamp255 f)), txlen := some 15 } }

/-- R181: the clamp, over the signed value. -/
def Obligations.ClampSaturates : Prop :=
  ∀ n : BitVec 32, ((clamp255 n).toNat : Int) = if n.toInt < 0 then 0 else if n.toInt > 255 then 255 else n.toInt

/-- R183, "round to nearest, ties to even" at 53 bits: the rounded significand is exact when it fits, is within half a unit of the
exact one, is even on a tie, and has 53 bits (or is 2 ^ 53, the next binade) when it was shifted. -/
def Obligations.ProductRoundsToNearestEven : Prop :=
  ∀ p : Nat,
    let q := (roundSig p).1
    let k := (roundSig p).2
    (p < 2 ^ 53 → q = p ∧ k = 0) ∧
    2 * (q * 2 ^ k) ≤ 2 * p + 2 ^ k ∧ 2 * p ≤ 2 * (q * 2 ^ k) + 2 ^ k ∧
    (k ≠ 0 → (2 * (q * 2 ^ k) = 2 * p + 2 ^ k ∨ 2 * p = 2 * (q * 2 ^ k) + 2 ^ k) → q % 2 = 0) ∧
    (2 ^ 53 ≤ p → 2 ^ 52 ≤ q ∧ q ≤ 2 ^ 53)

/-- R183: the product of a finite value is its significand times 255, rounded (ProductRoundsToNearestEven says how), and infinite
from 2 ^ 1024 on; for a finite product the result is the clamp of the product truncated toward zero, the order the source gives. A
finite value is `± sig * 2 ^ e / 2 ^ 1074`, read from its bits as log 11 (PRESUMED) says. -/
def Obligations.ScaleIsClampOfTruncatedProduct : Prop :=
  (∀ (neg : Bool) (sig e : Nat),
    let q := (roundSig (255 * sig)).1
    let k := (roundSig (255 * sig)).2
    (2 ^ 2098 ≤ q * 2 ^ (e + k) → (F64.finite neg sig e).mul255 = .infinite neg) ∧
    (q * 2 ^ (e + k) < 2 ^ 2098 → (F64.finite neg sig e).mul255 = .finite neg q (e + k))) ∧
  ∀ (drawn : Byte) (x : BitVec 64) (neg : Bool) (sig e : Nat), (F64.ofBits x).mul255 = .finite neg sig e →
    scale255 drawn x = clampInt (if neg then -((sig * 2 ^ e / 2 ^ 1074 : Nat) : Int) else ((sig * 2 ^ e / 2 ^ 1074 : Nat) : Int))

/-- R184: infinities saturate, a product that overflows gives 255, negative zero gives 0, and a NaN gives the free byte, whatever it
is. The bit patterns of these values are those of IEEE 754, which the spec names without its layout (log 11, PRESUMED). -/
def Obligations.NonFiniteOperandsAreNeverRejected : Prop :=
  ∀ drawn : Byte,
    scale255 drawn 0x7FF0000000000000 = 255 ∧ scale255 drawn 0xFFF0000000000000 = 0 ∧
    scale255 drawn 0x8000000000000000 = 0 ∧
    (∀ x, (F64.ofBits x).mul255 = .infinite false → scale255 drawn x = 255) ∧
    (∀ x : BitVec 64, (x.extractLsb' 52 11).toNat = 2047 → (x.extractLsb' 0 52).toNat ≠ 0 → scale255 drawn x = drawn)

/-- 43_command_query.md section 4 (R191): `scale255` is monotone on the finite values, read from the bits as log 11 (PRESUMED)
says. -/
def Obligations.ScaleIsMonotone : Prop :=
  ∀ (drawn : Byte) (x y : BitVec 64) (n m : Bool) (sx ex sy ey : Nat),
    F64.ofBits x = .finite n sx ex → F64.ofBits y = .finite m sy ey →
    (if n then -((sx * 2 ^ ex : Nat) : Int) else ((sx * 2 ^ ex : Nat) : Int)) ≤
      (if m then -((sy * 2 ^ ey : Nat) : Int) else ((sy * 2 ^ ey : Nat) : Int)) →
    (scale255 drawn x).toNat ≤ (scale255 drawn y).toNat

/-! ### Wire frames -/

/-- R43, R57, R71 to R75: when the transport takes the request frame of a pending write, the write is on record and the read of
the same exchange follows; nothing else changes. -/
def Obligations.RequestFramesAreHandedOver : Prop :=
  ∀ (c : Nat) (x : Exch) (s : State), s.opstep = .busy c (.writing x) →
    (s.work.txbuf = some Wire.deactivate → exec .deactivateReq s = .next { s with
      opstep := .busy c (.reading x), history := s.history ++ [.wrote Wire.deactivate true] }) ∧
    (s.work.txbuf = some Wire.activate → exec .activateReq s = .next { s with
      opstep := .busy c (.reading x), history := s.history ++ [.wrote Wire.activate true] }) ∧
    (∀ p v f lo hi, s.work.txbuf = some (Wire.setPoseBody p v f ++ [lo, hi]) →
      exec (.setposeReq p v f lo hi) s = .next { s with
        opstep := .busy c (.reading x), history := s.history ++ [.wrote (Wire.setPoseBody p v f ++ [lo, hi]) true] }) ∧
    (s.work.txbuf = some Wire.statusPoll → exec .statuspollReq s = .next { s with
      opstep := .busy c (.reading x), history := s.history ++ [.wrote Wire.statusPoll true] }) ∧
    (s.work.txbuf = some Wire.readState → exec .readstateReq s = .next { s with
      opstep := .busy c (.reading x), history := s.history ++ [.wrote Wire.readState true] })

/-- The model's choice, log 2 (R163, R86 say only that the block sends no such frame): a request frame that no pending write has
due does nothing. -/
def Obligations.FramesThatAreNotDueDoNothing : Prop :=
  ∀ (i : Instr) (f : List Byte) (s : State), encode i = .toDevice f → dueFrame s ≠ some f → exec i s = .next s

/-- R76, R153, R154, R180: the ack ends the read that waits for 8 bytes: after DEACTIVATE_REQ the activate request is due, after
ACTIVATE_REQ the status poll, and after SETPOSE_REQ the operation returns Ok. -/
def Obligations.AckAdvancesTheOperation : Prop :=
  ∀ (c : Nat) (s : State), s.rx = [] →
    (s.opstep = .busy c (.reading .deactivate) → exec .ackRsp s = .next { s with
      fsm := .activating, opstep := .busy c (.writing .activate)
      work := { s.work with txbuf := some Wire.activate, txlen := some 15, rxbuf := some Wire.ack, rxlen := some 8 }
      history := s.history ++ [.didRead 8 s.timeout (.bytes Wire.ack)] }) ∧
    (s.opstep = .busy c (.reading .activate) → exec .ackRsp s = .next { s with
      fsm := .polling, opstep := .busy c (.writing .poll)
      work := { s.work with txbuf := some Wire.statusPoll, txlen := some 8, rxbuf := some Wire.ack, rxlen := some 8 }
      history := s.history ++ [.didRead 8 s.timeout (.bytes Wire.ack)] }) ∧
    (s.opstep = .busy c (.reading .setPose) → exec .ackRsp s = .next { s with
      lock := .free, opstep := .idle, work := Work.empty
      history := s.history ++ [.didRead 8 s.timeout (.bytes Wire.ack)]
      results := s.results ++ [⟨c, .ok .unit⟩] })

/-- R77, R78, R155, R157: after a status poll, activation complete ends CONNECT with Ok in Ready, and activation pending makes the
next status poll due, FSM staying as it is. -/
def Obligations.ActivationRepliesEndOrRepeatThePoll : Prop :=
  ∀ (c : Nat) (s : State), s.rx = [] → s.opstep = .busy c (.reading .poll) →
    exec .actCompleteRsp s = .next { s with
      fsm := .ready, lock := .free, opstep := .idle, work := Work.empty
      history := s.history ++ [.didRead 7 s.timeout (.bytes Wire.actComplete)]
      results := s.results ++ [⟨c, .ok .unit⟩] } ∧
    exec .actPendingRsp s = .next { s with
      opstep := .busy c (.writing .poll)
      work := { s.work with
        txbuf := some Wire.statusPoll, txlen := some 8, rxbuf := some Wire.actPending, rxlen := some 7 }
      history := s.history ++ [.didRead 7 s.timeout (.bytes Wire.actPending)] }

/-- R79, R211: any eleven bytes end the read of GET_STATE with a record; none is refused. -/
def Obligations.AnyStateReplyIsDecoded : Prop :=
  ∀ (c : Nat) (bs : List Byte) (s : State), bs.length = 11 → s.rx = [] → s.opstep = .busy c (.reading .readState) →
    ∃ st, decodeStatus bs = some st ∧
      exec (.stateRsp bs) s = .next { s with
        lock := .free, opstep := .idle, work := Work.empty
        history := s.history ++ [.didRead 11 s.timeout (.bytes bs)]
        results := s.results ++ [⟨c, .ok (.status st)⟩] }

/-- R60, R238: a reply frame for which no read waits changes nothing but RX, where its bytes wait behind those already there. -/
def Obligations.UnsolicitedFramesWaitInRx : Prop :=
  ∀ (i : Instr) (f : List Byte) (s : State), encode i = .fromDevice f →
    (∀ c x, s.opstep ≠ .busy c (.reading x)) → exec i s = .next { s with rx := s.rx ++ f }

/-- R44, R57, R60, R83: a read returns when as many bytes as its request fixes are there, takes the oldest ones, whatever request
caused them, and leaves the rest in RX; with fewer it keeps waiting. -/
def Obligations.ReadsTakeTheOldestBytes : Prop :=
  ∀ (c : Nat) (x : Exch) (b : List Byte) (s : State), s.opstep = .busy c (.reading x) →
    (x.replyLen ≤ (s.rx ++ b).length →
      (answer (.bytes b) s).rx = (s.rx ++ b).drop x.replyLen ∧
      (answer (.bytes b) s).history =
        s.history ++ [.didRead x.replyLen s.timeout (.bytes ((s.rx ++ b).take x.replyLen))]) ∧
    ((s.rx ++ b).length < x.replyLen → answer (.bytes b) s = { s with rx := s.rx ++ b })

/-! ### Reset and invariants -/

/-- R31, R260: construction with any parameters leaves this state, and the constants of the frame ROM are their literal bytes. RX
and the model's own fields start as logs 1, 6, 7 and 10 say; this statement does not speak of them. -/
def Obligations.ResetLeavesTheBlockDisconnected : Prop :=
  State.reset = State.construct Config.tpParams Config.timeout ∧
  (∀ p t : Nat, let s := State.construct p t
    s.fsm = .disconnected ∧ s.tp = .released ∧ s.lock = .free ∧ s.waiters = [] ∧ s.sync = .insync ∧ s.opstep = .idle ∧
      s.tpParams = p ∧ s.timeout = t ∧ s.work.pos = none ∧ s.work.spd = none ∧ s.work.frc = none ∧ s.work.crc = none ∧
      s.work.txbuf = none ∧ s.work.txlen = none ∧ s.work.rxbuf = none ∧ s.work.rxlen = none ∧
      s.history = [] ∧ s.results = []) ∧
  Wire.deactivate = [0x09, 0x10, 0x03, 0xE8, 0x00, 0x03, 0x06, 0x00, 0x00, 0x00, 0x00, 0x00, 0x00, 0x73, 0x30] ∧
  Wire.activate = [0x09, 0x10, 0x03, 0xE8, 0x00, 0x03, 0x06, 0x01, 0x00, 0x00, 0x00, 0x00, 0x00, 0x72, 0xE1] ∧
  Wire.statusPoll = [0x09, 0x03, 0x07, 0xD0, 0x00, 0x01, 0x85, 0xCF] ∧
  Wire.readState = [0x09, 0x03, 0x07, 0xD0, 0x00, 0x03, 0x04, 0x0E] ∧
  Wire.ack = [0x09, 0x10, 0x03, 0xE8, 0x00, 0x03, 0x01, 0x30] ∧
  Wire.actComplete = [0x09, 0x03, 0x02, 0x11, 0x00, 0x55, 0xD5] ∧
  Wire.actPending = [0x09, 0x03, 0x02, 0x31, 0x00, 0x4C, 0x15] ∧
  Wire.setPosePrefix = [0x09, 0x10, 0x03, 0xE8, 0x00, 0x03, 0x06, 0x09, 0x00, 0x00]

/-- The invariant holds after reset. -/
def Obligations.ResetIsConsistent : Prop := Consistent State.reset

/-- R15, R32, R54, R57, R131, R158, R162: every step keeps the invariant: the lock is free exactly when no locked operation runs;
FSM, TP, OPSTEP and TXBUF are what the transition table makes of the transport calls on record; those calls keep the protocol; no
working register has a value between operations; only locked operations wait. -/
def Obligations.StepKeepsConsistent : Prop :=
  ∀ s t : State, Consistent s → step s = .next t → Consistent t

/-- R32: what holds whenever the lock is free. -/
def Obligations.FreeLockMeansQuietBlock : Prop :=
  ∀ s : State, Consistent s → s.lock = .free →
    (s.fsm = .disconnected ∨ s.fsm = .ready) ∧ (s.tp = .held ↔ s.fsm = .ready) ∧ s.opstep = .idle ∧ s.work = Work.empty

/-- R131: every frame on record ends in the checksum of the bytes before it, low byte first. -/
def Obligations.EveryFrameSentCarriesItsChecksum : Prop :=
  ∀ (s : State) (f : List Byte) (ok : Bool), Consistent s → Event.wrote f ok ∈ s.history →
    ∃ body : List Byte, f = body ++ [(crcOf body).extractLsb' 0 8, (crcOf body).extractLsb' 8 8]

/-- R54, R57, R83: the event after a successful write is its read, of the length that the request fixes. -/
def Obligations.EveryWriteIsFollowedByItsRead : Prop :=
  ∀ (s : State) (f : List Byte) (e : Event) (pre post : List Event), Consistent s →
    s.history = pre ++ [.wrote f true, e] ++ post →
    ∃ (n t : Nat) (r : ReadEnd), e = .didRead n t r ∧
      n = if f = Wire.statusPoll then 7 else if f = Wire.readState then 11 else 8

/-- R26: no step writes the parameters. -/
def Obligations.ParametersAreNeverWritten : Prop :=
  ∀ s t : State, step s = .next t → t.tpParams = s.tpParams ∧ t.timeout = s.timeout

/-- R54, R236: no step takes back or rewrites a transport call or a result that is on record. -/
def Obligations.RecordsOnlyGrow : Prop :=
  ∀ s t : State, step s = .next t →
    (∃ h, t.history = s.history ++ h) ∧ ∃ r, t.results = s.results ++ r
end

