-- ==== Sys2Proof/Laws/State.lean ====
section
/-! SUPPORT. One lemma per field per update of the state, each true by definition, so that no proof unfolds a record update. -/

namespace Sys2Proof.Machine

/-! ### setFsm -/

@[simp] theorem setFsm_fsm (f : Fsm) (s : State) : (setFsm f s).fsm = f := rfl
@[simp] theorem setFsm_tp (f : Fsm) (s : State) : (setFsm f s).tp = s.tp := rfl
@[simp] theorem setFsm_lock (f : Fsm) (s : State) : (setFsm f s).lock = s.lock := rfl
@[simp] theorem setFsm_waiters (f : Fsm) (s : State) : (setFsm f s).waiters = s.waiters := rfl
@[simp] theorem setFsm_sync (f : Fsm) (s : State) : (setFsm f s).sync = s.sync := rfl
@[simp] theorem setFsm_opstep (f : Fsm) (s : State) : (setFsm f s).opstep = s.opstep := rfl
@[simp] theorem setFsm_work (f : Fsm) (s : State) : (setFsm f s).work = s.work := rfl
@[simp] theorem setFsm_tpParams (f : Fsm) (s : State) : (setFsm f s).tpParams = s.tpParams := rfl
@[simp] theorem setFsm_timeout (f : Fsm) (s : State) : (setFsm f s).timeout = s.timeout := rfl
@[simp] theorem setFsm_rx (f : Fsm) (s : State) : (setFsm f s).rx = s.rx := rfl
@[simp] theorem setFsm_history (f : Fsm) (s : State) : (setFsm f s).history = s.history := rfl
@[simp] theorem setFsm_results (f : Fsm) (s : State) : (setFsm f s).results = s.results := rfl
@[simp] theorem setFsm_inputs (f : Fsm) (s : State) : (setFsm f s).inputs = s.inputs := rfl
@[simp] theorem setFsm_port (f : Fsm) (s : State) : (setFsm f s).port = s.port := rfl
@[simp] theorem setFsm_draws (f : Fsm) (s : State) : (setFsm f s).draws = s.draws := rfl

/-! ### setTp -/

@[simp] theorem setTp_fsm (t : Tp) (s : State) : (setTp t s).fsm = s.fsm := rfl
@[simp] theorem setTp_tp (t : Tp) (s : State) : (setTp t s).tp = t := rfl
@[simp] theorem setTp_lock (t : Tp) (s : State) : (setTp t s).lock = s.lock := rfl
@[simp] theorem setTp_waiters (t : Tp) (s : State) : (setTp t s).waiters = s.waiters := rfl
@[simp] theorem setTp_sync (t : Tp) (s : State) : (setTp t s).sync = s.sync := rfl
@[simp] theorem setTp_opstep (t : Tp) (s : State) : (setTp t s).opstep = s.opstep := rfl
@[simp] theorem setTp_work (t : Tp) (s : State) : (setTp t s).work = s.work := rfl
@[simp] theorem setTp_tpParams (t : Tp) (s : State) : (setTp t s).tpParams = s.tpParams := rfl
@[simp] theorem setTp_timeout (t : Tp) (s : State) : (setTp t s).timeout = s.timeout := rfl
@[simp] theorem setTp_rx (t : Tp) (s : State) : (setTp t s).rx = s.rx := rfl
@[simp] theorem setTp_history (t : Tp) (s : State) : (setTp t s).history = s.history := rfl
@[simp] theorem setTp_results (t : Tp) (s : State) : (setTp t s).results = s.results := rfl
@[simp] theorem setTp_inputs (t : Tp) (s : State) : (setTp t s).inputs = s.inputs := rfl
@[simp] theorem setTp_port (t : Tp) (s : State) : (setTp t s).port = s.port := rfl
@[simp] theorem setTp_draws (t : Tp) (s : State) : (setTp t s).draws = s.draws := rfl

/-! ### setLock -/

@[simp] theorem setLock_fsm (l : Lock) (s : State) : (setLock l s).fsm = s.fsm := rfl
@[simp] theorem setLock_tp (l : Lock) (s : State) : (setLock l s).tp = s.tp := rfl
@[simp] theorem setLock_lock (l : Lock) (s : State) : (setLock l s).lock = l := rfl
@[simp] theorem setLock_waiters (l : Lock) (s : State) : (setLock l s).waiters = s.waiters := rfl
@[simp] theorem setLock_sync (l : Lock) (s : State) : (setLock l s).sync = s.sync := rfl
@[simp] theorem setLock_opstep (l : Lock) (s : State) : (setLock l s).opstep = s.opstep := rfl
@[simp] theorem setLock_work (l : Lock) (s : State) : (setLock l s).work = s.work := rfl
@[simp] theorem setLock_tpParams (l : Lock) (s : State) : (setLock l s).tpParams = s.tpParams := rfl
@[simp] theorem setLock_timeout (l : Lock) (s : State) : (setLock l s).timeout = s.timeout := rfl
@[simp] theorem setLock_rx (l : Lock) (s : State) : (setLock l s).rx = s.rx := rfl
@[simp] theorem setLock_history (l : Lock) (s : State) : (setLock l s).history = s.history := rfl
@[simp] theorem setLock_results (l : Lock) (s : State) : (setLock l s).results = s.results := rfl
@[simp] theorem setLock_inputs (l : Lock) (s : State) : (setLock l s).inputs = s.inputs := rfl
@[simp] theorem setLock_port (l : Lock) (s : State) : (setLock l s).port = s.port := rfl
@[simp] theorem setLock_draws (l : Lock) (s : State) : (setLock l s).draws = s.draws := rfl

/-! ### setWaiters -/

@[simp] theorem setWaiters_fsm (w : List Waiter) (s : State) : (setWaiters w s).fsm = s.fsm := rfl
@[simp] theorem setWaiters_tp (w : List Waiter) (s : State) : (setWaiters w s).tp = s.tp := rfl
@[simp] theorem setWaiters_lock (w : List Waiter) (s : State) : (setWaiters w s).lock = s.lock := rfl
@[simp] theorem setWaiters_waiters (w : List Waiter) (s : State) : (setWaiters w s).waiters = w := rfl
@[simp] theorem setWaiters_sync (w : List Waiter) (s : State) : (setWaiters w s).sync = s.sync := rfl
@[simp] theorem setWaiters_opstep (w : List Waiter) (s : State) : (setWaiters w s).opstep = s.opstep := rfl
@[simp] theorem setWaiters_work (w : List Waiter) (s : State) : (setWaiters w s).work = s.work := rfl
@[simp] theorem setWaiters_tpParams (w : List Waiter) (s : State) : (setWaiters w s).tpParams = s.tpParams := rfl
@[simp] theorem setWaiters_timeout (w : List Waiter) (s : State) : (setWaiters w s).timeout = s.timeout := rfl
@[simp] theorem setWaiters_rx (w : List Waiter) (s : State) : (setWaiters w s).rx = s.rx := rfl
@[simp] theorem setWaiters_history (w : List Waiter) (s : State) : (setWaiters w s).history = s.history := rfl
@[simp] theorem setWaiters_results (w : List Waiter) (s : State) : (setWaiters w s).results = s.results := rfl
@[simp] theorem setWaiters_inputs (w : List Waiter) (s : State) : (setWaiters w s).inputs = s.inputs := rfl
@[simp] theorem setWaiters_port (w : List Waiter) (s : State) : (setWaiters w s).port = s.port := rfl
@[simp] theorem setWaiters_draws (w : List Waiter) (s : State) : (setWaiters w s).draws = s.draws := rfl

/-! ### setSync -/

@[simp] theorem setSync_fsm (y : Sync) (s : State) : (setSync y s).fsm = s.fsm := rfl
@[simp] theorem setSync_tp (y : Sync) (s : State) : (setSync y s).tp = s.tp := rfl
@[simp] theorem setSync_lock (y : Sync) (s : State) : (setSync y s).lock = s.lock := rfl
@[simp] theorem setSync_waiters (y : Sync) (s : State) : (setSync y s).waiters = s.waiters := rfl
@[simp] theorem setSync_sync (y : Sync) (s : State) : (setSync y s).sync = y := rfl
@[simp] theorem setSync_opstep (y : Sync) (s : State) : (setSync y s).opstep = s.opstep := rfl
@[simp] theorem setSync_work (y : Sync) (s : State) : (setSync y s).work = s.work := rfl
@[simp] theorem setSync_tpParams (y : Sync) (s : State) : (setSync y s).tpParams = s.tpParams := rfl
@[simp] theorem setSync_timeout (y : Sync) (s : State) : (setSync y s).timeout = s.timeout := rfl
@[simp] theorem setSync_rx (y : Sync) (s : State) : (setSync y s).rx = s.rx := rfl
@[simp] theorem setSync_history (y : Sync) (s : State) : (setSync y s).history = s.history := rfl
@[simp] theorem setSync_results (y : Sync) (s : State) : (setSync y s).results = s.results := rfl
@[simp] theorem setSync_inputs (y : Sync) (s : State) : (setSync y s).inputs = s.inputs := rfl
@[simp] theorem setSync_port (y : Sync) (s : State) : (setSync y s).port = s.port := rfl
@[simp] theorem setSync_draws (y : Sync) (s : State) : (setSync y s).draws = s.draws := rfl

/-! ### setOpstep -/

@[simp] theorem setOpstep_fsm (o : OpStep) (s : State) : (setOpstep o s).fsm = s.fsm := rfl
@[simp] theorem setOpstep_tp (o : OpStep) (s : State) : (setOpstep o s).tp = s.tp := rfl
@[simp] theorem setOpstep_lock (o : OpStep) (s : State) : (setOpstep o s).lock = s.lock := rfl
@[simp] theorem setOpstep_waiters (o : OpStep) (s : State) : (setOpstep o s).waiters = s.waiters := rfl
@[simp] theorem setOpstep_sync (o : OpStep) (s : State) : (setOpstep o s).sync = s.sync := rfl
@[simp] theorem setOpstep_opstep (o : OpStep) (s : State) : (setOpstep o s).opstep = o := rfl
@[simp] theorem setOpstep_work (o : OpStep) (s : State) : (setOpstep o s).work = s.work := rfl
@[simp] theorem setOpstep_tpParams (o : OpStep) (s : State) : (setOpstep o s).tpParams = s.tpParams := rfl
@[simp] theorem setOpstep_timeout (o : OpStep) (s : State) : (setOpstep o s).timeout = s.timeout := rfl
@[simp] theorem setOpstep_rx (o : OpStep) (s : State) : (setOpstep o s).rx = s.rx := rfl
@[simp] theorem setOpstep_history (o : OpStep) (s : State) : (setOpstep o s).history = s.history := rfl
@[simp] theorem setOpstep_results (o : OpStep) (s : State) : (setOpstep o s).results = s.results := rfl
@[simp] theorem setOpstep_inputs (o : OpStep) (s : State) : (setOpstep o s).inputs = s.inputs := rfl
@[simp] theorem setOpstep_port (o : OpStep) (s : State) : (setOpstep o s).port = s.port := rfl
@[simp] theorem setOpstep_draws (o : OpStep) (s : State) : (setOpstep o s).draws = s.draws := rfl

/-! ### setWork -/

@[simp] theorem setWork_fsm (w : Work) (s : State) : (setWork w s).fsm = s.fsm := rfl
@[simp] theorem setWork_tp (w : Work) (s : State) : (setWork w s).tp = s.tp := rfl
@[simp] theorem setWork_lock (w : Work) (s : State) : (setWork w s).lock = s.lock := rfl
@[simp] theorem setWork_waiters (w : Work) (s : State) : (setWork w s).waiters = s.waiters := rfl
@[simp] theorem setWork_sync (w : Work) (s : State) : (setWork w s).sync = s.sync := rfl
@[simp] theorem setWork_opstep (w : Work) (s : State) : (setWork w s).opstep = s.opstep := rfl
@[simp] theorem setWork_work (w : Work) (s : State) : (setWork w s).work = w := rfl
@[simp] theorem setWork_tpParams (w : Work) (s : State) : (setWork w s).tpParams = s.tpParams := rfl
@[simp] theorem setWork_timeout (w : Work) (s : State) : (setWork w s).timeout = s.timeout := rfl
@[simp] theorem setWork_rx (w : Work) (s : State) : (setWork w s).rx = s.rx := rfl
@[simp] theorem setWork_history (w : Work) (s : State) : (setWork w s).history = s.history := rfl
@[simp] theorem setWork_results (w : Work) (s : State) : (setWork w s).results = s.results := rfl
@[simp] theorem setWork_inputs (w : Work) (s : State) : (setWork w s).inputs = s.inputs := rfl
@[simp] theorem setWork_port (w : Work) (s : State) : (setWork w s).port = s.port := rfl
@[simp] theorem setWork_draws (w : Work) (s : State) : (setWork w s).draws = s.draws := rfl

/-! ### setRx -/

@[simp] theorem setRx_fsm (b : List Byte) (s : State) : (setRx b s).fsm = s.fsm := rfl
@[simp] theorem setRx_tp (b : List Byte) (s : State) : (setRx b s).tp = s.tp := rfl
@[simp] theorem setRx_lock (b : List Byte) (s : State) : (setRx b s).lock = s.lock := rfl
@[simp] theorem setRx_waiters (b : List Byte) (s : State) : (setRx b s).waiters = s.waiters := rfl
@[simp] theorem setRx_sync (b : List Byte) (s : State) : (setRx b s).sync = s.sync := rfl
@[simp] theorem setRx_opstep (b : List Byte) (s : State) : (setRx b s).opstep = s.opstep := rfl
@[simp] theorem setRx_work (b : List Byte) (s : State) : (setRx b s).work = s.work := rfl
@[simp] theorem setRx_tpParams (b : List Byte) (s : State) : (setRx b s).tpParams = s.tpParams := rfl
@[simp] theorem setRx_timeout (b : List Byte) (s : State) : (setRx b s).timeout = s.timeout := rfl
@[simp] theorem setRx_rx (b : List Byte) (s : State) : (setRx b s).rx = b := rfl
@[simp] theorem setRx_history (b : List Byte) (s : State) : (setRx b s).history = s.history := rfl
@[simp] theorem setRx_results (b : List Byte) (s : State) : (setRx b s).results = s.results := rfl
@[simp] theorem setRx_inputs (b : List Byte) (s : State) : (setRx b s).inputs = s.inputs := rfl
@[simp] theorem setRx_port (b : List Byte) (s : State) : (setRx b s).port = s.port := rfl
@[simp] theorem setRx_draws (b : List Byte) (s : State) : (setRx b s).draws = s.draws := rfl

/-! ### setInputs -/

@[simp] theorem setInputs_fsm (l : List Input) (s : State) : (setInputs l s).fsm = s.fsm := rfl
@[simp] theorem setInputs_tp (l : List Input) (s : State) : (setInputs l s).tp = s.tp := rfl
@[simp] theorem setInputs_lock (l : List Input) (s : State) : (setInputs l s).lock = s.lock := rfl
@[simp] theorem setInputs_waiters (l : List Input) (s : State) : (setInputs l s).waiters = s.waiters := rfl
@[simp] theorem setInputs_sync (l : List Input) (s : State) : (setInputs l s).sync = s.sync := rfl
@[simp] theorem setInputs_opstep (l : List Input) (s : State) : (setInputs l s).opstep = s.opstep := rfl
@[simp] theorem setInputs_work (l : List Input) (s : State) : (setInputs l s).work = s.work := rfl
@[simp] theorem setInputs_tpParams (l : List Input) (s : State) : (setInputs l s).tpParams = s.tpParams := rfl
@[simp] theorem setInputs_timeout (l : List Input) (s : State) : (setInputs l s).timeout = s.timeout := rfl
@[simp] theorem setInputs_rx (l : List Input) (s : State) : (setInputs l s).rx = s.rx := rfl
@[simp] theorem setInputs_history (l : List Input) (s : State) : (setInputs l s).history = s.history := rfl
@[simp] theorem setInputs_results (l : List Input) (s : State) : (setInputs l s).results = s.results := rfl
@[simp] theorem setInputs_inputs (l : List Input) (s : State) : (setInputs l s).inputs = l := rfl
@[simp] theorem setInputs_port (l : List Input) (s : State) : (setInputs l s).port = s.port := rfl
@[simp] theorem setInputs_draws (l : List Input) (s : State) : (setInputs l s).draws = s.draws := rfl

/-! ### setPort -/

@[simp] theorem setPort_fsm (c : Nat) (s : State) : (setPort c s).fsm = s.fsm := rfl
@[simp] theorem setPort_tp (c : Nat) (s : State) : (setPort c s).tp = s.tp := rfl
@[simp] theorem setPort_lock (c : Nat) (s : State) : (setPort c s).lock = s.lock := rfl
@[simp] theorem setPort_waiters (c : Nat) (s : State) : (setPort c s).waiters = s.waiters := rfl
@[simp] theorem setPort_sync (c : Nat) (s : State) : (setPort c s).sync = s.sync := rfl
@[simp] theorem setPort_opstep (c : Nat) (s : State) : (setPort c s).opstep = s.opstep := rfl
@[simp] theorem setPort_work (c : Nat) (s : State) : (setPort c s).work = s.work := rfl
@[simp] theorem setPort_tpParams (c : Nat) (s : State) : (setPort c s).tpParams = s.tpParams := rfl
@[simp] theorem setPort_timeout (c : Nat) (s : State) : (setPort c s).timeout = s.timeout := rfl
@[simp] theorem setPort_rx (c : Nat) (s : State) : (setPort c s).rx = s.rx := rfl
@[simp] theorem setPort_history (c : Nat) (s : State) : (setPort c s).history = s.history := rfl
@[simp] theorem setPort_results (c : Nat) (s : State) : (setPort c s).results = s.results := rfl
@[simp] theorem setPort_inputs (c : Nat) (s : State) : (setPort c s).inputs = s.inputs := rfl
@[simp] theorem setPort_port (c : Nat) (s : State) : (setPort c s).port = c := rfl
@[simp] theorem setPort_draws (c : Nat) (s : State) : (setPort c s).draws = s.draws := rfl

/-! ### setDraws -/

@[simp] theorem setDraws_fsm (n : Nat) (s : State) : (setDraws n s).fsm = s.fsm := rfl
@[simp] theorem setDraws_tp (n : Nat) (s : State) : (setDraws n s).tp = s.tp := rfl
@[simp] theorem setDraws_lock (n : Nat) (s : State) : (setDraws n s).lock = s.lock := rfl
@[simp] theorem setDraws_waiters (n : Nat) (s : State) : (setDraws n s).waiters = s.waiters := rfl
@[simp] theorem setDraws_sync (n : Nat) (s : State) : (setDraws n s).sync = s.sync := rfl
@[simp] theorem setDraws_opstep (n : Nat) (s : State) : (setDraws n s).opstep = s.opstep := rfl
@[simp] theorem setDraws_work (n : Nat) (s : State) : (setDraws n s).work = s.work := rfl
@[simp] theorem setDraws_tpParams (n : Nat) (s : State) : (setDraws n s).tpParams = s.tpParams := rfl
@[simp] theorem setDraws_timeout (n : Nat) (s : State) : (setDraws n s).timeout = s.timeout := rfl
@[simp] theorem setDraws_rx (n : Nat) (s : State) : (setDraws n s).rx = s.rx := rfl
@[simp] theorem setDraws_history (n : Nat) (s : State) : (setDraws n s).history = s.history := rfl
@[simp] theorem setDraws_results (n : Nat) (s : State) : (setDraws n s).results = s.results := rfl
@[simp] theorem setDraws_inputs (n : Nat) (s : State) : (setDraws n s).inputs = s.inputs := rfl
@[simp] theorem setDraws_port (n : Nat) (s : State) : (setDraws n s).port = s.port := rfl
@[simp] theorem setDraws_draws (n : Nat) (s : State) : (setDraws n s).draws = n := rfl

/-! ### emit -/

@[simp] theorem emit_fsm (e : Event) (s : State) : (emit e s).fsm = s.fsm := rfl
@[simp] theorem emit_tp (e : Event) (s : State) : (emit e s).tp = s.tp := rfl
@[simp] theorem emit_lock (e : Event) (s : State) : (emit e s).lock = s.lock := rfl
@[simp] theorem emit_waiters (e : Event) (s : State) : (emit e s).waiters = s.waiters := rfl
@[simp] theorem emit_sync (e : Event) (s : State) : (emit e s).sync = s.sync := rfl
@[simp] theorem emit_opstep (e : Event) (s : State) : (emit e s).opstep = s.opstep := rfl
@[simp] theorem emit_work (e : Event) (s : State) : (emit e s).work = s.work := rfl
@[simp] theorem emit_tpParams (e : Event) (s : State) : (emit e s).tpParams = s.tpParams := rfl
@[simp] theorem emit_timeout (e : Event) (s : State) : (emit e s).timeout = s.timeout := rfl
@[simp] theorem emit_rx (e : Event) (s : State) : (emit e s).rx = s.rx := rfl
@[simp] theorem emit_history (e : Event) (s : State) : (emit e s).history = s.history ++ [e] := rfl
@[simp] theorem emit_results (e : Event) (s : State) : (emit e s).results = s.results := rfl
@[simp] theorem emit_inputs (e : Event) (s : State) : (emit e s).inputs = s.inputs := rfl
@[simp] theorem emit_port (e : Event) (s : State) : (emit e s).port = s.port := rfl
@[simp] theorem emit_draws (e : Event) (s : State) : (emit e s).draws = s.draws := rfl

/-! ### deliver -/

@[simp] theorem deliver_fsm (c : Nat) (r : Result) (s : State) : (deliver c r s).fsm = s.fsm := rfl
@[simp] theorem deliver_tp (c : Nat) (r : Result) (s : State) : (deliver c r s).tp = s.tp := rfl
@[simp] theorem deliver_lock (c : Nat) (r : Result) (s : State) : (deliver c r s).lock = s.lock := rfl
@[simp] theorem deliver_waiters (c : Nat) (r : Result) (s : State) : (deliver c r s).waiters = s.waiters := rfl
@[simp] theorem deliver_sync (c : Nat) (r : Result) (s : State) : (deliver c r s).sync = s.sync := rfl
@[simp] theorem deliver_opstep (c : Nat) (r : Result) (s : State) : (deliver c r s).opstep = s.opstep := rfl
@[simp] theorem deliver_work (c : Nat) (r : Result) (s : State) : (deliver c r s).work = s.work := rfl
@[simp] theorem deliver_tpParams (c : Nat) (r : Result) (s : State) : (deliver c r s).tpParams = s.tpParams := rfl
@[simp] theorem deliver_timeout (c : Nat) (r : Result) (s : State) : (deliver c r s).timeout = s.timeout := rfl
@[simp] theorem deliver_rx (c : Nat) (r : Result) (s : State) : (deliver c r s).rx = s.rx := rfl
@[simp] theorem deliver_history (c : Nat) (r : Result) (s : State) : (deliver c r s).history = s.history := rfl
@[simp] theorem deliver_results (c : Nat) (r : Result) (s : State) :
    (deliver c r s).results = s.results ++ [⟨c, r⟩] := rfl
@[simp] theorem deliver_inputs (c : Nat) (r : Result) (s : State) : (deliver c r s).inputs = s.inputs := rfl
@[simp] theorem deliver_port (c : Nat) (r : Result) (s : State) : (deliver c r s).port = s.port := rfl
@[simp] theorem deliver_draws (c : Nat) (r : Result) (s : State) : (deliver c r s).draws = s.draws := rfl

/-! ### returns -/

@[simp] theorem returns_fsm (r : Result) (s : State) : (returns r s).fsm = s.fsm := rfl
@[simp] theorem returns_tp (r : Result) (s : State) : (returns r s).tp = s.tp := rfl
@[simp] theorem returns_lock (r : Result) (s : State) : (returns r s).lock = s.lock := rfl
@[simp] theorem returns_waiters (r : Result) (s : State) : (returns r s).waiters = s.waiters := rfl
@[simp] theorem returns_sync (r : Result) (s : State) : (returns r s).sync = s.sync := rfl
@[simp] theorem returns_opstep (r : Result) (s : State) : (returns r s).opstep = s.opstep := rfl
@[simp] theorem returns_work (r : Result) (s : State) : (returns r s).work = s.work := rfl
@[simp] theorem returns_tpParams (r : Result) (s : State) : (returns r s).tpParams = s.tpParams := rfl
@[simp] theorem returns_timeout (r : Result) (s : State) : (returns r s).timeout = s.timeout := rfl
@[simp] theorem returns_rx (r : Result) (s : State) : (returns r s).rx = s.rx := rfl
@[simp] theorem returns_history (r : Result) (s : State) : (returns r s).history = s.history := rfl
@[simp] theorem returns_results (r : Result) (s : State) : (returns r s).results = s.results ++ [⟨s.port, r⟩] := rfl
@[simp] theorem returns_inputs (r : Result) (s : State) : (returns r s).inputs = s.inputs := rfl
@[simp] theorem returns_port (r : Result) (s : State) : (returns r s).port = s.port := rfl
@[simp] theorem returns_draws (r : Result) (s : State) : (returns r s).draws = s.draws := rfl

/-! ### release -/

@[simp] theorem release_fsm (s : State) : (release s).fsm = s.fsm := rfl
@[simp] theorem release_tp (s : State) : (release s).tp = s.tp := rfl
@[simp] theorem release_lock (s : State) : (release s).lock = .free := rfl
@[simp] theorem release_waiters (s : State) : (release s).waiters = s.waiters := rfl
@[simp] theorem release_sync (s : State) : (release s).sync = s.sync := rfl
@[simp] theorem release_opstep (s : State) : (release s).opstep = .idle := rfl
@[simp] theorem release_work (s : State) : (release s).work = Work.empty := rfl
@[simp] theorem release_tpParams (s : State) : (release s).tpParams = s.tpParams := rfl
@[simp] theorem release_timeout (s : State) : (release s).timeout = s.timeout := rfl
@[simp] theorem release_rx (s : State) : (release s).rx = s.rx := rfl
@[simp] theorem release_history (s : State) : (release s).history = s.history := rfl
@[simp] theorem release_results (s : State) : (release s).results = s.results := rfl
@[simp] theorem release_inputs (s : State) : (release s).inputs = s.inputs := rfl
@[simp] theorem release_port (s : State) : (release s).port = s.port := rfl
@[simp] theorem release_draws (s : State) : (release s).draws = s.draws := rfl

/-! ### complete -/

@[simp] theorem complete_fsm (c : Nat) (v : Value) (s : State) : (complete c v s).fsm = s.fsm := rfl
@[simp] theorem complete_tp (c : Nat) (v : Value) (s : State) : (complete c v s).tp = s.tp := rfl
@[simp] theorem complete_lock (c : Nat) (v : Value) (s : State) : (complete c v s).lock = .free := rfl
@[simp] theorem complete_waiters (c : Nat) (v : Value) (s : State) : (complete c v s).waiters = s.waiters := rfl
@[simp] theorem complete_sync (c : Nat) (v : Value) (s : State) : (complete c v s).sync = s.sync := rfl
@[simp] theorem complete_opstep (c : Nat) (v : Value) (s : State) : (complete c v s).opstep = .idle := rfl
@[simp] theorem complete_work (c : Nat) (v : Value) (s : State) : (complete c v s).work = Work.empty := rfl
@[simp] theorem complete_tpParams (c : Nat) (v : Value) (s : State) : (complete c v s).tpParams = s.tpParams := rfl
@[simp] theorem complete_timeout (c : Nat) (v : Value) (s : State) : (complete c v s).timeout = s.timeout := rfl
@[simp] theorem complete_rx (c : Nat) (v : Value) (s : State) : (complete c v s).rx = s.rx := rfl
@[simp] theorem complete_history (c : Nat) (v : Value) (s : State) : (complete c v s).history = s.history := rfl
@[simp] theorem complete_results (c : Nat) (v : Value) (s : State) :
    (complete c v s).results = s.results ++ [⟨c, .ok v⟩] := rfl
@[simp] theorem complete_inputs (c : Nat) (v : Value) (s : State) : (complete c v s).inputs = s.inputs := rfl
@[simp] theorem complete_port (c : Nat) (v : Value) (s : State) : (complete c v s).port = s.port := rfl
@[simp] theorem complete_draws (c : Nat) (v : Value) (s : State) : (complete c v s).draws = s.draws := rfl

/-! ### raise -/

@[simp] theorem raise_fsm (c : Nat) (e : Error) (s : State) : (raise c e s).fsm = s.fsm := rfl
@[simp] theorem raise_tp (c : Nat) (e : Error) (s : State) : (raise c e s).tp = s.tp := rfl
@[simp] theorem raise_lock (c : Nat) (e : Error) (s : State) : (raise c e s).lock = .free := rfl
@[simp] theorem raise_waiters (c : Nat) (e : Error) (s : State) : (raise c e s).waiters = s.waiters := rfl
@[simp] theorem raise_sync (c : Nat) (e : Error) (s : State) : (raise c e s).sync = s.sync := rfl
@[simp] theorem raise_opstep (c : Nat) (e : Error) (s : State) : (raise c e s).opstep = .idle := rfl
@[simp] theorem raise_work (c : Nat) (e : Error) (s : State) : (raise c e s).work = Work.empty := rfl
@[simp] theorem raise_tpParams (c : Nat) (e : Error) (s : State) : (raise c e s).tpParams = s.tpParams := rfl
@[simp] theorem raise_timeout (c : Nat) (e : Error) (s : State) : (raise c e s).timeout = s.timeout := rfl
@[simp] theorem raise_rx (c : Nat) (e : Error) (s : State) : (raise c e s).rx = s.rx := rfl
@[simp] theorem raise_history (c : Nat) (e : Error) (s : State) : (raise c e s).history = s.history := rfl
@[simp] theorem raise_results (c : Nat) (e : Error) (s : State) :
    (raise c e s).results = s.results ++ [⟨c, .err e⟩] := rfl
@[simp] theorem raise_inputs (c : Nat) (e : Error) (s : State) : (raise c e s).inputs = s.inputs := rfl
@[simp] theorem raise_port (c : Nat) (e : Error) (s : State) : (raise c e s).port = s.port := rfl
@[simp] theorem raise_draws (c : Nat) (e : Error) (s : State) : (raise c e s).draws = s.draws := rfl

/-! ### failHandshake -/

@[simp] theorem failHandshake_fsm (c : Nat) (e : Error) (s : State) : (failHandshake c e s).fsm = .faulted := rfl
@[simp] theorem failHandshake_tp (c : Nat) (e : Error) (s : State) : (failHandshake c e s).tp = s.tp := rfl
@[simp] theorem failHandshake_lock (c : Nat) (e : Error) (s : State) : (failHandshake c e s).lock = s.lock := rfl
@[simp] theorem failHandshake_waiters (c : Nat) (e : Error) (s : State) :
    (failHandshake c e s).waiters = s.waiters := rfl
@[simp] theorem failHandshake_sync (c : Nat) (e : Error) (s : State) : (failHandshake c e s).sync = s.sync := rfl
@[simp] theorem failHandshake_opstep (c : Nat) (e : Error) (s : State) :
    (failHandshake c e s).opstep = .busy c (.failing e) := rfl
@[simp] theorem failHandshake_work (c : Nat) (e : Error) (s : State) : (failHandshake c e s).work = s.work := rfl
@[simp] theorem failHandshake_tpParams (c : Nat) (e : Error) (s : State) :
    (failHandshake c e s).tpParams = s.tpParams := rfl
@[simp] theorem failHandshake_timeout (c : Nat) (e : Error) (s : State) :
    (failHandshake c e s).timeout = s.timeout := rfl
@[simp] theorem failHandshake_rx (c : Nat) (e : Error) (s : State) : (failHandshake c e s).rx = s.rx := rfl
@[simp] theorem failHandshake_history (c : Nat) (e : Error) (s : State) :
    (failHandshake c e s).history = s.history := rfl
@[simp] theorem failHandshake_results (c : Nat) (e : Error) (s : State) :
    (failHandshake c e s).results = s.results := rfl
@[simp] theorem failHandshake_inputs (c : Nat) (e : Error) (s : State) : (failHandshake c e s).inputs = s.inputs := rfl
@[simp] theorem failHandshake_port (c : Nat) (e : Error) (s : State) : (failHandshake c e s).port = s.port := rfl
@[simp] theorem failHandshake_draws (c : Nat) (e : Error) (s : State) : (failHandshake c e s).draws = s.draws := rfl

/-! ### send -/

@[simp] theorem send_fsm (c : Nat) (x : Exch) (f : List Byte) (s : State) : (send c x f s).fsm = s.fsm := rfl
@[simp] theorem send_tp (c : Nat) (x : Exch) (f : List Byte) (s : State) : (send c x f s).tp = s.tp := rfl
@[simp] theorem send_lock (c : Nat) (x : Exch) (f : List Byte) (s : State) : (send c x f s).lock = s.lock := rfl
@[simp] theorem send_waiters (c : Nat) (x : Exch) (f : List Byte) (s : State) :
    (send c x f s).waiters = s.waiters := rfl
@[simp] theorem send_sync (c : Nat) (x : Exch) (f : List Byte) (s : State) : (send c x f s).sync = s.sync := rfl
@[simp] theorem send_opstep (c : Nat) (x : Exch) (f : List Byte) (s : State) :
    (send c x f s).opstep = .busy c (.writing x) := rfl
@[simp] theorem send_work (c : Nat) (x : Exch) (f : List Byte) (s : State) :
    (send c x f s).work = { s.work with txbuf := some f, txlen := some (BitVec.ofNat 4 f.length) } := rfl
@[simp] theorem send_tpParams (c : Nat) (x : Exch) (f : List Byte) (s : State) :
    (send c x f s).tpParams = s.tpParams := rfl
@[simp] theorem send_timeout (c : Nat) (x : Exch) (f : List Byte) (s : State) :
    (send c x f s).timeout = s.timeout := rfl
@[simp] theorem send_rx (c : Nat) (x : Exch) (f : List Byte) (s : State) : (send c x f s).rx = s.rx := rfl
@[simp] theorem send_history (c : Nat) (x : Exch) (f : List Byte) (s : State) :
    (send c x f s).history = s.history := rfl
@[simp] theorem send_results (c : Nat) (x : Exch) (f : List Byte) (s : State) :
    (send c x f s).results = s.results := rfl
@[simp] theorem send_inputs (c : Nat) (x : Exch) (f : List Byte) (s : State) : (send c x f s).inputs = s.inputs := rfl
@[simp] theorem send_port (c : Nat) (x : Exch) (f : List Byte) (s : State) : (send c x f s).port = s.port := rfl
@[simp] theorem send_draws (c : Nat) (x : Exch) (f : List Byte) (s : State) : (send c x f s).draws = s.draws := rfl

end Sys2Proof.Machine
end

