-- ==== Sys2Proof/Laws/Ops.lean ====
section
/-! SUPPORT. What each shared operation can do, said once: the transport's answers position by position, running on, the lock,
the recognisers, the decoder of a status and the range check of CRC16. -/

namespace Sys2Proof.Machine

/-! ### Answers, position by position -/

theorem answer_opening_ok {s : State} {c : Nat} (h : s.opstep = .busy c .opening) (stale : List Byte) :
    answer (.openOk stale) s = openSucceeds c stale s := by simp [answer, h]

theorem answer_opening_refused {s : State} {c : Nat} (h : s.opstep = .busy c .opening) :
    answer .openRefused s = openFails c s := by simp [answer, h]

theorem answer_writing_ok {s : State} {c : Nat} {x : Exch} {f : List Byte} (h : s.opstep = .busy c (.writing x))
    (ht : s.work.txbuf = some f) : answer .writeOk s = writeSucceeds c x f s := by simp [answer, h, writeReturns, ht]

theorem answer_writing_failed {s : State} {c : Nat} {x : Exch} {f : List Byte} (h : s.opstep = .busy c (.writing x))
    (ht : s.work.txbuf = some f) : answer .writeFailed s = writeFails c x f s := by simp [answer, h, writeReturns, ht]

theorem answer_reading_bytes {s : State} {c : Nat} {x : Exch} (h : s.opstep = .busy c (.reading x)) (b : List Byte) :
    answer (.bytes b) s = readArrives c x b s := by simp [answer, h]

theorem answer_reading_timeout {s : State} {c : Nat} {x : Exch} (h : s.opstep = .busy c (.reading x)) :
    answer .timeout s = readFails c x .timeout .timeout s := by simp [answer, h]

theorem answer_reading_endOfStream {s : State} {c : Nat} {x : Exch} (h : s.opstep = .busy c (.reading x)) :
    answer .endOfStream s = readFails c x .endOfStream .endOfStream s := by simp [answer, h]

theorem answer_failing_closed {s : State} {c : Nat} {e : Error} (h : s.opstep = .busy c (.failing e)) (ok : Bool) :
    answer (.closed ok) s = failureCloses c e ok s := by simp [answer, h]

theorem answer_closing_closed {s : State} {c : Nat} (h : s.opstep = .busy c .closing) (ok : Bool) :
    answer (.closed ok) s = disconnectCloses c ok s := by simp [answer, h]

/-- Everything an answer can do: one of the nine returns of a pending call, more bytes in RX, or nothing. -/
theorem answer_cases (a : Input) (s : State) :
    (∃ c stale, s.opstep = .busy c .opening ∧ a = .openOk stale ∧ answer a s = openSucceeds c stale s) ∨
    (∃ c, s.opstep = .busy c .opening ∧ a = .openRefused ∧ answer a s = openFails c s) ∨
    (∃ c x f, s.opstep = .busy c (.writing x) ∧ s.work.txbuf = some f ∧ a = .writeOk ∧
      answer a s = writeSucceeds c x f s) ∨
    (∃ c x f, s.opstep = .busy c (.writing x) ∧ s.work.txbuf = some f ∧ a = .writeFailed ∧
      answer a s = writeFails c x f s) ∨
    (∃ c x b, s.opstep = .busy c (.reading x) ∧ x.replyLen ≤ (s.rx ++ b).length ∧ a = .bytes b ∧
      answer a s = readSucceeds c x (setRx (s.rx ++ b) s)) ∨
    (∃ c x r e, s.opstep = .busy c (.reading x) ∧
      ((a = .timeout ∧ r = .timeout ∧ e = .timeout) ∨ (a = .endOfStream ∧ r = .endOfStream ∧ e = .endOfStream)) ∧
      answer a s = readFails c x r e s) ∨
    (∃ c e ok, s.opstep = .busy c (.failing e) ∧ a = .closed ok ∧ answer a s = failureCloses c e ok s) ∨
    (∃ c ok, s.opstep = .busy c .closing ∧ a = .closed ok ∧ answer a s = disconnectCloses c ok s) ∨
    (∃ b, a = .bytes b ∧ answer a s = setRx (s.rx ++ b) s) ∨
    answer a s = s := by
  unfold answer
  split
  · next c stale h => exact .inl ⟨c, stale, h, rfl, rfl⟩
  · next c h => exact .inr (.inl ⟨c, h, rfl, rfl⟩)
  · next c x h =>
    cases ht : s.work.txbuf with
    | none => simp [writeReturns, ht]
    | some f => exact .inr (.inr (.inl ⟨c, x, f, h, rfl, rfl, by simp [writeReturns, ht]⟩))
  · next c x h =>
    cases ht : s.work.txbuf with
    | none => simp [writeReturns, ht]
    | some f => exact .inr (.inr (.inr (.inl ⟨c, x, f, h, rfl, rfl, by simp [writeReturns, ht]⟩)))
  · next c x b h =>
    unfold readArrives
    split
    · next hl => exact .inr (.inr (.inr (.inr (.inl ⟨c, x, b, h, hl, rfl, rfl⟩))))
    · exact .inr (.inr (.inr (.inr (.inr (.inr (.inr (.inr (.inl ⟨b, rfl, rfl⟩))))))))
  · next c x h => exact .inr (.inr (.inr (.inr (.inr (.inl ⟨c, x, _, _, h, .inl ⟨rfl, rfl, rfl⟩, rfl⟩)))))
  · next c x h => exact .inr (.inr (.inr (.inr (.inr (.inl ⟨c, x, _, _, h, .inr ⟨rfl, rfl, rfl⟩, rfl⟩)))))
  · next c e ok h => exact .inr (.inr (.inr (.inr (.inr (.inr (.inl ⟨c, e, ok, h, rfl, rfl⟩))))))
  · next c ok h => exact .inr (.inr (.inr (.inr (.inr (.inr (.inr (.inl ⟨c, ok, h, rfl, rfl⟩)))))))
  · next b _ => exact .inr (.inr (.inr (.inr (.inr (.inr (.inr (.inr (.inl ⟨b, rfl, rfl⟩))))))))
  · exact .inr (.inr (.inr (.inr (.inr (.inr (.inr (.inr (.inr rfl))))))))

/-- A transport error inside an exchange is the failure exit of the handshake or the end of the operation. -/
theorem exchangeFails_eq (c : Nat) (x : Exch) (e : Error) (s : State) :
    exchangeFails c x e s = failHandshake c e (setSync .indeterminate s) ∨
      exchangeFails c x e s = raise c e (setSync .indeterminate s) := by
  cases x <;> simp [exchangeFails]

/-- What a reply can lead to: the next write of the handshake or of the poll loop, the failure exit, an Ok, or an error. -/
theorem useReply_cases (c : Nat) (x : Exch) (r : List Byte) (s : State) :
    (x = .deactivate ∧ isAck r ∧ useReply c x r s = send c .activate Wire.activate (setFsm .activating s)) ∨
    (x = .activate ∧ isAck r ∧ useReply c x r s = send c .poll Wire.statusPoll (setFsm .polling s)) ∨
    (x = .poll ∧ isActComplete r ∧ useReply c x r s = complete c .unit (setFsm .ready s)) ∨
    (x = .poll ∧ isActComplete r = false ∧ isActPending r ∧ useReply c x r s = send c .poll Wire.statusPoll s) ∨
    (x = .deactivate ∧ isAck r = false ∧ useReply c x r s = failHandshake c .deactivateRejected s) ∨
    (x = .activate ∧ isAck r = false ∧ useReply c x r s = failHandshake c .activateRejected s) ∨
    (x = .poll ∧ isActComplete r = false ∧ isActPending r = false ∧ useReply c x r s = failHandshake c .restartError s) ∨
    (x = .setPose ∧ isAck r ∧ useReply c x r s = complete c .unit s) ∨
    (x = .setPose ∧ isAck r = false ∧ useReply c x r s = raise c .sendRejected s) ∨
    (∃ st, x = .readState ∧ decodeStatus r = some st ∧ useReply c x r s = complete c (.status st) s) ∨
    (x = .readState ∧ decodeStatus r = none ∧ useReply c x r s = raise c .badLength s) := by
  cases x
  · cases h : isAck r <;> simp [useReply, h]
  · cases h : isAck r <;> simp [useReply, h]
  · cases h : isActComplete r <;> cases h' : isActPending r <;> simp [useReply, h, h']
  · cases h : isAck r <;> simp [useReply, h]
  · cases h : decodeStatus r <;> simp [useReply, h]

/-! ### SYNC as it reads -/

theorem readSync_released {s : State} (h : s.tp = .released) : readSync s = .insync := by simp [readSync, h]

theorem readSync_held {s : State} (h : s.tp = .held) : readSync s = s.sync := by simp [readSync, h]

/-! ### Running on -/

@[simp] theorem runOn_nil (s : State) : runOn [] s = setInputs [] s := rfl

theorem runOn_answer {a : Input} {s : State} (hs : running s = true) (ha : a.isAnswer = true) (l : List Input) :
    runOn (a :: l) s = runOn l (answer a s) := by simp [runOn, hs, ha]

/-- Nothing runs: every input stays. -/
theorem runOn_idle {s : State} (hs : running s = false) (l : List Input) : runOn l s = setInputs l s := by
  cases l <;> simp [runOn, hs]

/-- A caller does something: the operation pauses. -/
theorem runOn_pause {a : Input} (ha : a.isAnswer = false) (l : List Input) (s : State) :
    runOn (a :: l) s = setInputs (a :: l) s := by simp [runOn, ha]

theorem running_idle {s : State} (h : s.opstep = .idle) : running s = false := by simp [running, h]

theorem running_busy {s : State} {c : Nat} {p : Pos} (h : s.opstep = .busy c p) : running s = true := by
  simp [running, h]

/-- What holds before and is kept by every answer holds after running on, if it does not look at the inputs. -/
theorem runOn_keeps {P : State → Prop} (hin : ∀ s l, P s → P (setInputs l s)) (hans : ∀ s a, P s → P (answer a s))
    (l : List Input) (s : State) (h : P s) : P (runOn l s) := by
  induction l generalizing s with
  | nil => exact hin _ _ h
  | cons a l ih =>
    unfold runOn
    split
    · exact ih _ (hans _ _ h)
    · exact hin _ _ h

/-! ### The lock -/

theorem locked_held {s : State} (h : s.lock = .held) (op : Instr) (body : Nat → State → State) :
    locked op body s = setWaiters (s.waiters ++ [⟨s.port, op⟩]) s := by simp [locked, h]

theorem locked_free {s : State} (h : s.lock = .free) (op : Instr) (body : Nat → State → State) :
    locked op body s = runOn s.inputs (body s.port (setLock .held s)) := by simp [locked, h]

/-! ### What an answer leaves alone -/

/-- The fields that no transport answer and no use of a reply writes. -/
structure SamePorts (s t : State) : Prop where
  waiters : t.waiters = s.waiters
  tpParams : t.tpParams = s.tpParams
  timeout : t.timeout = s.timeout
  inputs : t.inputs = s.inputs
  port : t.port = s.port
  draws : t.draws = s.draws

theorem useReply_keeps (c : Nat) (x : Exch) (r : List Byte) (s : State) : SamePorts s (useReply c x r s) := by
  rcases useReply_cases c x r s with ⟨-, -, h⟩ | ⟨-, -, h⟩ | ⟨-, -, h⟩ | ⟨-, -, -, h⟩ | ⟨-, -, h⟩ | ⟨-, -, h⟩ |
    ⟨-, -, -, h⟩ | ⟨-, -, h⟩ | ⟨-, -, h⟩ | ⟨_, -, -, h⟩ | ⟨-, -, h⟩ <;> rw [h] <;> constructor <;> rfl

theorem exchangeFails_keeps (c : Nat) (x : Exch) (e : Error) (s : State) : SamePorts s (exchangeFails c x e s) := by
  rcases exchangeFails_eq c x e s with h | h <;> rw [h] <;> constructor <;> rfl

theorem SamePorts.trans {a b c : State} (h : SamePorts a b) (k : SamePorts b c) : SamePorts a c :=
  ⟨k.1.trans h.1, k.2.trans h.2, k.3.trans h.3, k.4.trans h.4, k.5.trans h.5, k.6.trans h.6⟩

theorem answer_keeps (a : Input) (s : State) : SamePorts s (answer a s) := by
  rcases answer_cases a s with ⟨c, stale, -, -, h⟩ | ⟨c, -, -, h⟩ | ⟨c, x, f, -, -, -, h⟩ | ⟨c, x, f, -, -, -, h⟩ |
    ⟨c, x, b, -, -, -, h⟩ | ⟨c, x, r, e, -, -, h⟩ | ⟨c, e, ok, -, -, h⟩ | ⟨c, ok, -, -, h⟩ | ⟨b, -, h⟩ | h <;> rw [h]
  · constructor <;> rfl
  · constructor <;> rfl
  · constructor <;> rfl
  · exact SamePorts.trans (b := emit (.wrote f false) s) (by constructor <;> rfl) (exchangeFails_keeps ..)
  · exact SamePorts.trans (by constructor <;> rfl) (useReply_keeps ..)
  · exact SamePorts.trans (by constructor <;> rfl) (exchangeFails_keeps ..)
  · constructor <;> rfl
  · constructor <;> rfl
  · constructor <;> rfl
  · constructor <;> rfl

/-- A request frame passes as the return of the write that has it due, or changes nothing. -/
theorem passes_cases (f : List Byte) (s : State) :
    (dueFrame s = some f ∧ passes f s = answer .writeOk s) ∨ passes f s = s := by
  unfold passes
  split
  · next h => exact .inl ⟨h, rfl⟩
  · exact .inr rfl

/-! ### The step -/

/-- A free lock does not stay with nobody while an operation waits and no caller acts (R275): the step runs a waiter. -/
theorem step_handsOver {s : State} (h : handsOver s = true) :
    ∃ w, s.lock = .free ∧ s.waiters[drawnWaiter s]? = some w ∧
      step s = exec w.op (setPort w.caller (setWaiters (s.waiters.eraseIdx (drawnWaiter s)) (setDraws (s.draws + 1) s))) := by
  have h' := h
  simp only [handsOver, Bool.and_eq_true, decide_eq_true_eq] at h'
  obtain ⟨⟨hl, hw⟩, -⟩ := h'
  have hlt : drawnWaiter s < s.waiters.length := Nat.mod_lt _ (List.length_pos_iff.mpr hw)
  refine ⟨s.waiters[drawnWaiter s], hl, List.getElem?_eq_getElem hlt, ?_⟩
  simp [step, fetch, h, fetchGrant, hl, List.getElem?_eq_getElem hlt]

theorem fetch_input {s : State} (h : handsOver s = false) : fetch s = fetchInput s := by simp [fetch, h]

/-- While an operation holds the lock, a step takes the first input. -/
theorem handsOver_held {s : State} (h : s.lock = .held) : handsOver s = false := by simp [handsOver, h]

/-- While a caller acts, a step takes what the caller does. -/
theorem handsOver_caller {s : State} (h : noCallerActs s.inputs = false) : handsOver s = false := by simp [handsOver, h]

/-- Everything a step can do: hand the free lock to a waiter, wait, run a command or refuse its code, hand the lock to the waiter
that the outside names or not, run a frame that passes the port, or take another answer of the transport. -/
theorem step_cases (s : State) :
    (∃ w, s.lock = .free ∧ s.waiters[drawnWaiter s]? = some w ∧
      step s = exec w.op (setPort w.caller (setWaiters (s.waiters.eraseIdx (drawnWaiter s)) (setDraws (s.draws + 1) s)))) ∨
    (s.inputs = [] ∧ step s = .next s) ∨
    (∃ c op args l i, s.inputs = .command c op args :: l ∧ decode (.host op args) = .ok i ∧
      step s = exec i (setPort c (setInputs l s))) ∨
    (∃ c op args l, s.inputs = .command c op args :: l ∧
      step s = .next (deliver c (.err .illegalOp) (setInputs l s))) ∨
    (∃ k w l, s.inputs = .grant k :: l ∧ s.lock = .free ∧ s.waiters[k]? = some w ∧
      step s = exec w.op (setPort w.caller (setWaiters (s.waiters.eraseIdx k) (setInputs l s)))) ∨
    (∃ k l, s.inputs = .grant k :: l ∧ step s = .next (setInputs l s)) ∨
    (∃ f l i, s.inputs = .writeOk :: l ∧ dueFrame s = some f ∧ decode (.toDevice f) = .ok i ∧
      step s = exec i (setInputs l s)) ∨
    (∃ b l i, s.inputs = .bytes b :: l ∧ decode (.fromDevice b) = .ok i ∧ step s = exec i (setInputs l s)) ∨
    (∃ a l, s.inputs = a :: l ∧ a.isAnswer = true ∧ step s = .next (answer a (setInputs l s))) := by
  cases ho : handsOver s with
  | true => exact .inl (step_handsOver ho)
  | false =>
  refine .inr ?_
  have hf := fetch_input ho
  have other : ∀ a l, s.inputs = a :: l → a.isAnswer = true → fetch s = .moved (answer a (setInputs l s)) →
      ∃ a l, s.inputs = a :: l ∧ a.isAnswer = true ∧ step s = .next (answer a (setInputs l s)) :=
    fun a l h ha hm => ⟨a, l, h, ha, by simp [step, hm]⟩
  cases h : s.inputs with
  | nil => exact .inl ⟨rfl, by simp [step, hf, fetchInput, h]⟩
  | cons a l =>
    rw [h] at other
    cases a with
    | command c op args =>
      cases hd : decode (.host op args) with
      | ok i => exact .inr (.inl ⟨c, op, args, l, i, rfl, hd, by simp [step, hf, fetchInput, h, fetchCommand, hd]⟩)
      | error e => exact .inr (.inr (.inl ⟨c, op, args, l, rfl, by simp [step, hf, fetchInput, h, fetchCommand, hd]⟩))
    | grant k =>
      cases hl : s.lock with
      | held => exact .inr (.inr (.inr (.inr (.inl ⟨k, l, rfl, by simp [step, hf, fetchInput, h, fetchGrant, hl]⟩))))
      | free =>
        cases hw : s.waiters[k]? with
        | none => exact .inr (.inr (.inr (.inr (.inl ⟨k, l, rfl, by simp [step, hf, fetchInput, h, fetchGrant, hl, hw]⟩))))
        | some w => exact .inr (.inr (.inr (.inl ⟨k, w, l, rfl, rfl, hw, by simp [step, hf, fetchInput, h, fetchGrant, hl, hw]⟩)))
    | writeOk =>
      have hdue : dueFrame (setInputs l s) = dueFrame s := rfl
      cases hd' : dueFrame s with
      | none =>
        refine .inr (.inr (.inr (.inr (.inr (.inr (.inr (other _ _ rfl rfl ?_)))))))
        simp [hf, fetchInput, h, fetchWrite, hdue, hd']
      | some f =>
        cases hd : decode (.toDevice f) with
        | ok i =>
          exact .inr (.inr (.inr (.inr (.inr (.inl ⟨f, l, i, rfl, rfl, hd, by simp [step, hf, fetchInput, h, fetchWrite, hdue, hd', hd]⟩)))))
        | error e =>
          refine .inr (.inr (.inr (.inr (.inr (.inr (.inr (other _ _ rfl rfl ?_)))))))
          simp [hf, fetchInput, h, fetchWrite, hdue, hd', hd]
    | bytes b =>
      cases hd : decode (.fromDevice b) with
      | ok i =>
        exact .inr (.inr (.inr (.inr (.inr (.inr (.inl ⟨b, l, i, rfl, hd, by simp [step, hf, fetchInput, h, fetchBytes, hd]⟩))))))
      | error e =>
        refine .inr (.inr (.inr (.inr (.inr (.inr (.inr (other _ _ rfl rfl ?_)))))))
        simp [hf, fetchInput, h, fetchBytes, hd]
    | _ => exact .inr (.inr (.inr (.inr (.inr (.inr (.inr (other _ _ rfl rfl (by simp [hf, fetchInput, h]))))))))

/-! ### Recognisers, status, checksum -/

theorem isAck_iff (r : List Byte) : isAck r = true ↔ r = Wire.ack := by simp [isAck]

theorem isActComplete_iff (r : List Byte) : isActComplete r = true ↔ r = Wire.actComplete := by simp [isActComplete]

theorem isActPending_iff (r : List Byte) : isActPending r = true ↔ r = Wire.actPending := by simp [isActPending]

@[simp] theorem isAck_ack : isAck Wire.ack = true := by decide

@[simp] theorem isActComplete_actComplete : isActComplete Wire.actComplete = true := by decide

@[simp] theorem isActComplete_actPending : isActComplete Wire.actPending = false := by decide

@[simp] theorem isActPending_actPending : isActPending Wire.actPending = true := by decide

theorem crc16_inside {bs : List Byte} {start len : Int} (hs : 0 ≤ start) (hl : 0 ≤ len) (h : start + len ≤ bs.length) :
    crc16 bs start len = some (crcOf ((bs.drop start.toNat).take len.toNat)) := by simp [crc16, hs, hl, h]

theorem crc16_outside {bs : List Byte} {start len : Int} (h : start < 0 ∨ len < 0 ∨ bs.length < start + len) :
    crc16 bs start len = none := by
  rw [crc16, if_neg (by omega)]

theorem crcFrom_append (c : Word16) (a b : List Byte) : crcFrom c (a ++ b) = crcFrom (crcFrom c a) b := by
  simp [crcFrom]

@[simp] theorem setPose_length (p v f : Byte) : (Wire.setPose p v f).length = 15 := rfl

end Sys2Proof.Machine
end

