-- ==== Sys2Proof/Laws/PerInstr.lean ====
section
/-! SUPPORT. A law of every instruction: where its encoding stands (30_encoding.md R70, R84, R131), one lemma per
constructor. -/

namespace Sys2Proof.Laws

open Sys2Proof.Machine

/-- A well-formed instruction encodes to an assigned `OP` code (R84), to a request frame of 8 or 15 bytes that starts with the
device address and ends in its checksum (R70, R131), or to a reply of 7, 8 or 11 bytes (R83). -/
def EncodingShape.Statement (i : Instr) : Prop :=
  WellFormed i →
    match encode i with
    | .host op _ => op.toNat ≤ 0x05 ∨ (0x10 ≤ op.toNat ∧ op.toNat ≤ 0x19)
    | .toDevice f => (f.length = 8 ∨ f.length = 15) ∧ f.head? = some 0x09 ∧ Wire.fresh f = true
    | .fromDevice f => f.length = 7 ∨ f.length = 8 ∨ f.length = 11

theorem EncodingShape.isConnected : Statement .isConnected := fun _ => .inl (by decide)
theorem EncodingShape.connect : Statement .connect := fun _ => .inl (by decide)
theorem EncodingShape.disconnect : Statement .disconnect := fun _ => .inl (by decide)
theorem EncodingShape.pose (position speed force : BitVec 32) : Statement (.pose position speed force) :=
  fun _ => .inl (by decide)
theorem EncodingShape.poseNorm (position speed force : BitVec 64) : Statement (.poseNorm position speed force) :=
  fun _ => .inl (by decide)
theorem EncodingShape.getState : Statement .getState := fun _ => .inl (by decide)
theorem EncodingShape.crc16 (bytes : List Byte) (start length : Int) : Statement (.crc16 bytes start length) :=
  fun _ => .inr (by decide)
theorem EncodingShape.buildSetpose (pos spd frc : Byte) : Statement (.buildSetpose pos spd frc) :=
  fun _ => .inr (by decide)
theorem EncodingShape.buildDeactivate : Statement .buildDeactivate := fun _ => .inr (by decide)
theorem EncodingShape.buildActivate : Statement .buildActivate := fun _ => .inr (by decide)
theorem EncodingShape.buildStatuspoll : Statement .buildStatuspoll := fun _ => .inr (by decide)
theorem EncodingShape.buildReadstate : Statement .buildReadstate := fun _ => .inr (by decide)
theorem EncodingShape.isAck (bytes : List Byte) : Statement (.isAck bytes) := fun _ => .inr (by decide)
theorem EncodingShape.isActComplete (bytes : List Byte) : Statement (.isActComplete bytes) := fun _ => .inr (by decide)
theorem EncodingShape.isActPending (bytes : List Byte) : Statement (.isActPending bytes) := fun _ => .inr (by decide)
theorem EncodingShape.decodeStatus (bytes : List Byte) : Statement (.decodeStatus bytes) := fun _ => .inr (by decide)
theorem EncodingShape.deactivateReq : Statement .deactivateReq := fun _ => ⟨.inr rfl, rfl, by decide +kernel⟩
theorem EncodingShape.activateReq : Statement .activateReq := fun _ => ⟨.inr rfl, rfl, by decide +kernel⟩

theorem EncodingShape.setposeReq (pos spd frc ckLo ckHi : Byte) : Statement (.setposeReq pos spd frc ckLo ckHi) := by
  intro h
  simp only [WellFormed, Instr.wellFormed, Bool.and_eq_true, beq_iff_eq] at h
  refine ⟨.inr rfl, rfl, ?_⟩
  rw [h.1, h.2]
  exact decide_eq_true ⟨Nat.le_add_left 2 13, rfl⟩

theorem EncodingShape.statuspollReq : Statement .statuspollReq := fun _ => ⟨.inl rfl, rfl, by decide +kernel⟩
theorem EncodingShape.readstateReq : Statement .readstateReq := fun _ => ⟨.inl rfl, rfl, by decide +kernel⟩
theorem EncodingShape.ackRsp : Statement .ackRsp := fun _ => .inr (.inl rfl)
theorem EncodingShape.actCompleteRsp : Statement .actCompleteRsp := fun _ => .inl rfl
theorem EncodingShape.actPendingRsp : Statement .actPendingRsp := fun _ => .inl rfl

theorem EncodingShape.stateRsp (bytes : List Byte) : Statement (.stateRsp bytes) := by
  intro h
  simp only [WellFormed, Instr.wellFormed, beq_iff_eq] at h
  exact .inr (.inr h)

end Sys2Proof.Laws
end

