-- ==== Sys2Proof/Machine/Text.lean ====
section
/-! DEFINITION. The textual notation of 30_encoding.md R87: mnemonics, transport events and results. -/

namespace Sys2Proof.Machine

/-- The mnemonics of spec/opcode_table.json (R71 to R79, R84). -/
def mnemonic : Instr → String
  | .isConnected => "IS_CONNECTED"
  | .connect => "CONNECT"
  | .disconnect => "DISCONNECT"
  | .pose _ _ _ => "POSE"
  | .poseNorm _ _ _ => "POSE_NORM"
  | .getState => "GET_STATE"
  | .crc16 _ _ _ => "CRC16"
  | .buildSetpose _ _ _ => "BUILD_SETPOSE"
  | .buildDeactivate => "BUILD_DEACTIVATE"
  | .buildActivate => "BUILD_ACTIVATE"
  | .buildStatuspoll => "BUILD_STATUSPOLL"
  | .buildReadstate => "BUILD_READSTATE"
  | .isAck _ => "IS_ACK"
  | .isActComplete _ => "IS_ACT_COMPLETE"
  | .isActPending _ => "IS_ACT_PENDING"
  | .decodeStatus _ => "DECODE_STATUS"
  | .deactivateReq => "DEACTIVATE_REQ"
  | .activateReq => "ACTIVATE_REQ"
  | .setposeReq _ _ _ _ _ => "SETPOSE_REQ"
  | .statuspollReq => "STATUSPOLL_REQ"
  | .readstateReq => "READSTATE_REQ"
  | .ackRsp => "ACK_RSP"
  | .actCompleteRsp => "ACT_COMPLETE_RSP"
  | .actPendingRsp => "ACT_PENDING_RSP"
  | .stateRsp _ => "STATE_RSP"

/-- A hexadecimal digit, capitals. -/
def hexDigit (n : Nat) : String :=
  (["0", "1", "2", "3", "4", "5", "6", "7", "8", "9", "A", "B", "C", "D", "E", "F"][n]?).getD "?"

/-- A byte list, each byte as two digits, separated by spaces (R7). -/
def hexBytes (bs : List Byte) : String :=
  " ".intercalate (bs.map fun b => hexDigit (b.toNat / 16) ++ hexDigit (b.toNat % 16))

/-- A transport event (R87). -/
def Event.text : Event → String
  | .opened _ true => "OPEN: ok"
  | .opened _ false => "OPEN: !ConnectionRefused"
  | .wrote f true => "TX: " ++ hexBytes f
  | .wrote _ false => "TX: !WriteFailed"
  | .didRead n _ (.bytes b) => "RX(" ++ toString n ++ "): " ++ hexBytes b
  | .didRead n _ .timeout => "RX(" ++ toString n ++ "): !Timeout"
  | .didRead n _ .endOfStream => "RX(" ++ toString n ++ "): !EndOfStream"
  | .closed _ => "CLOSE"

/-- Class and cause of an error (R87, R227). -/
def Error.text : Error → String
  | .connectionRefused => "TransportError.ConnectionRefused"
  | .writeFailed => "TransportError.WriteFailed"
  | .timeout => "TransportError.Timeout"
  | .endOfStream => "TransportError.EndOfStream"
  | .sendRejected => "ProtocolError.SendRejected"
  | .deactivateRejected => "ActivationError.DeactivateRejected"
  | .activateRejected => "ActivationError.ActivateRejected"
  | .restartError => "ActivationError.RestartError"
  | .badLength => "DecodeError.BadLength"
  | .notConnected => "NotConnected"
  | .illegalOp => "IllegalOp"

/-- A returned value in parentheses (R87), the record as the vectors write it. -/
def Value.text : Value → String
  | .unit => ""
  | .flag b => if b then "(true)" else "(false)"
  | .pair lo hi => "(" ++ hexBytes [lo] ++ ", " ++ hexBytes [hi] ++ ")"
  | .frame bs => "(" ++ hexBytes bs ++ ")"
  | .status r =>
    "(act=" ++ toString r.act.toNat ++ ", gto=" ++ toString r.gto.toNat ++ ", gphase=" ++ toString r.gphase.toNat ++
      ", ophase=" ++ toString r.ophase.toNat ++ ", fault=" ++ toString r.fault.toNat ++ ", pos_echo=" ++
      toString r.posEcho.toNat ++ ", pos_meas=" ++ toString r.posMeas.toNat ++ ", cur_mA=" ++ toString r.curMA.toNat ++ ")"

/-- A result (R87). -/
def Result.text : Result → String
  | .ok v => "-> Ok" ++ v.text
  | .err e => "-> Err(" ++ e.text ++ ")"

end Sys2Proof.Machine
end

