-- ==== Sys2Proof/Tests/Slice0.lean ====
section
/-! SUPPORT. Tests: ill-formed terms that WellFormed refuses, a word of the spec for every constructor, the worked examples and
vectors of spec/95_test_vectors.md on single steps, and for every obligation with hypotheses one theorem that shows a state and
operands that meet them all. Expected values come from the spec. -/

namespace Sys2Proof.Tests

open Sys2Proof.Machine

/-! ### Small states -/

/-- The block after construction, with what the outside does next. -/
def idleAt (l : List Input) : State := { State.construct 0 0 with inputs := l }

/-- The transport calls of a handshake without a pending reply (program P1). -/
def handshake : List Event :=
  [.opened 0 true, .wrote Wire.deactivate true, .didRead 8 0 (.bytes Wire.ack), .wrote Wire.activate true,
    .didRead 8 0 (.bytes Wire.ack), .wrote Wire.statusPoll true, .didRead 7 0 (.bytes Wire.actComplete)]

/-- The block after a successful CONNECT. -/
def readyAt (l : List Input) : State :=
  { State.construct 0 0 with fsm := .ready, tp := .held, history := handshake, inputs := l }

/-- A locked operation of caller 7 at a position, with what it sends. -/
def busyAt (f : Fsm) (p : Pos) (tx : Option (List Byte)) (l : List Input) : State :=
  { State.construct 0 0 with
    fsm := f, tp := .held, lock := .held, opstep := .busy 7 p, work := { Work.empty with txbuf := tx }, inputs := l }

/-- One field of the next state, if there is one. -/
def after {α : Type} (f : State → α) : Host.Outcome State Fault Refusal → Option α
  | .next s => some (f s)
  | .fault _ => none
  | .refused _ => none

/-- The last result the host port returned. -/
def lastResult (s : State) : Option Result := s.results.getLast?.map Return.result

/-! ### WellFormed -/

theorem test_wf_refuses_stale_checksum : ¬ WellFormed (.setposeReq 0x00 0xFF 0x80 0x73 0xA9) := by decide +kernel
theorem test_wf_refuses_swapped_checksum : ¬ WellFormed (.setposeReq 0x00 0xFF 0x80 0xF9 0x33) := by decide +kernel
theorem test_wf_accepts_checksum : WellFormed (.setposeReq 0x00 0xFF 0x80 0x33 0xF9) := by decide +kernel
theorem test_wf_refuses_short_state : ¬ WellFormed (.stateRsp [1, 2, 3, 4, 5, 6, 7, 8, 9, 10]) := by decide
theorem test_wf_refuses_long_state : ¬ WellFormed (.stateRsp [1, 2, 3, 4, 5, 6, 7, 8, 9, 10, 11, 12]) := by decide

/-! ### Words of the tables (R71 to R79, R84) -/

theorem test_decode_session_codes :
    decode (.host 0b00000 .zero) = .ok .isConnected ∧
    decode (.host 0b00001 .zero) = .ok .connect ∧
    decode (.host 0b00010 .zero) = .ok .disconnect ∧
    decode (.host 0b00011 ⟨0xFFFFFFF6, 0x0000012C, 0x00000080, 0, 0, 0, 0, 0, 0, [], 0, 0⟩) =
      .ok (.pose 0xFFFFFFF6 0x0000012C 0x00000080) ∧
    decode (.host 0b00100 ⟨0, 0, 0, 0x3FF0000000000000, 0x4000000000000000, 0x3FE0000000000000, 0, 0, 0, [], 0, 0⟩) =
      .ok (.poseNorm 0x3FF0000000000000 0x4000000000000000 0x3FE0000000000000) ∧
    decode (.host 0b00101 .zero) = .ok .getState := by decide

theorem test_decode_unit_codes :
    decode (.host 0b10000 ⟨0, 0, 0, 0, 0, 0, 0, 0, 0, [0xAA, 0xBB, 0x09, 0x10, 0x03, 0xCC], 2, 3⟩) =
      .ok (.crc16 [0xAA, 0xBB, 0x09, 0x10, 0x03, 0xCC] 2 3) ∧
    decode (.host 0b10001 ⟨0, 0, 0, 0, 0, 0, 0x19, 0x33, 0xFE, [], 0, 0⟩) = .ok (.buildSetpose 0x19 0x33 0xFE) ∧
    decode (.host 0b10010 .zero) = .ok .buildDeactivate ∧
    decode (.host 0b10011 .zero) = .ok .buildActivate ∧
    decode (.host 0b10100 .zero) = .ok .buildStatuspoll ∧
    decode (.host 0b10101 .zero) = .ok .buildReadstate ∧
    decode (.host 0b10110 ⟨0, 0, 0, 0, 0, 0, 0, 0, 0, [0x01], 0, 0⟩) = .ok (.isAck [0x01]) ∧
    decode (.host 0b10111 ⟨0, 0, 0, 0, 0, 0, 0, 0, 0, [0x02], 0, 0⟩) = .ok (.isActComplete [0x02]) ∧
    decode (.host 0b11000 ⟨0, 0, 0, 0, 0, 0, 0, 0, 0, [0x03], 0, 0⟩) = .ok (.isActPending [0x03]) ∧
    decode (.host 0b11001 ⟨0, 0, 0, 0, 0, 0, 0, 0, 0, [0x04], 0, 0⟩) = .ok (.decodeStatus [0x04]) := by decide

theorem test_decode_unassigned_codes :
    decode (.host 0x06 .zero) = .error (.unassignedOp 0x06) ∧ decode (.host 0x0F .zero) = .error (.unassignedOp 0x0F) ∧
    decode (.host 0x1A .zero) = .error (.unassignedOp 0x1A) ∧ decode (.host 0x1F .zero) = .error (.unassignedOp 0x1F) := by
  decide

theorem test_decode_requests :
    decode (.toDevice [0x09, 0x10, 0x03, 0xE8, 0x00, 0x03, 0x06, 0x00, 0x00, 0x00, 0x00, 0x00, 0x00, 0x73, 0x30]) =
      .ok .deactivateReq ∧
    decode (.toDevice [0x09, 0x10, 0x03, 0xE8, 0x00, 0x03, 0x06, 0x01, 0x00, 0x00, 0x00, 0x00, 0x00, 0x72, 0xE1]) =
      .ok .activateReq ∧
    decode (.toDevice [0x09, 0x10, 0x03, 0xE8, 0x00, 0x03, 0x06, 0x09, 0x00, 0x00, 0x64, 0x96, 0xC8, 0x5C, 0x40]) =
      .ok (.setposeReq 0x64 0x96 0xC8 0x5C 0x40) ∧
    decode (.toDevice [0x09, 0x03, 0x07, 0xD0, 0x00, 0x01, 0x85, 0xCF]) = .ok .statuspollReq ∧
    decode (.toDevice [0x09, 0x03, 0x07, 0xD0, 0x00, 0x03, 0x04, 0x0E]) = .ok .readstateReq := by decide

theorem test_decode_replies :
    decode (.fromDevice [0x09, 0x10, 0x03, 0xE8, 0x00, 0x03, 0x01, 0x30]) = .ok .ackRsp ∧
    decode (.fromDevice [0x09, 0x03, 0x02, 0x11, 0x00, 0x55, 0xD5]) = .ok .actCompleteRsp ∧
    decode (.fromDevice [0x09, 0x03, 0x02, 0x31, 0x00, 0x4C, 0x15]) = .ok .actPendingRsp ∧
    decode (.fromDevice [0x09, 0x03, 0x06, 0x59, 0x00, 0x00, 0xFF, 0x7D, 0x0A, 0xDB, 0x1B]) =
      .ok (.stateRsp [0x09, 0x03, 0x06, 0x59, 0x00, 0x00, 0xFF, 0x7D, 0x0A, 0xDB, 0x1B]) := by decide

theorem test_decode_rejects_frames :
    decode (.fromDevice [0x09, 0x10, 0x03, 0xE8, 0x00, 0x03, 0x01, 0x31]) = .error .unknownReply ∧
    decode (.toDevice [0x09, 0x10, 0x03, 0xE8, 0x00, 0x03, 0x06, 0x00, 0x00, 0x00, 0x00, 0x00, 0x00, 0x73, 0xA9]) =
      .error .unknownRequest ∧
    decode (.toDevice [0x09, 0x10, 0x03, 0xE8, 0x00, 0x03, 0x06, 0x09, 0x00, 0x00, 0x00, 0x00, 0x00, 0x73]) =
      .error .unknownRequest ∧
    decode (.toDevice []) = .error .unknownRequest ∧ decode (.fromDevice []) = .error .unknownReply := by decide

theorem test_table_words :
    decodeTableWord 8 0x03 = some (.pose 0 0 0) ∧
    decodeTableWord 8 0x06 = none ∧
    decodeTableWord 120 0x091003E800030609000000000073A9 = some (.setposeReq 0x00 0x00 0x00 0x73 0xA9) ∧
    decodeTableWord 64 0x090307D0000185CF = some .statuspollReq ∧
    decodeTableWord 64 0x091003E800030130 = some .ackRsp ∧
    decodeTableWord 56 0x09030231004C15 = some .actPendingRsp := by decide

theorem test_fetch_word_request :
    after (fun s => (s.opstep, s.history)) (step ((State.construct 0 0).withFetchWord 64 0x090307D0000185CF)) =
      some (.busy 0 (.reading .poll), [.wrote Wire.statusPoll true]) := by decide +kernel

theorem test_fetch_word_operation :
    after lastResult (step ((State.construct 0 0).withFetchWord 8 0x03)) = some (some (.err .notConnected)) := by
  decide +kernel

/-! ### Checksum Engine (95_test_vectors.md sections 2 and 3) -/

theorem test_bit_step : bitStep 0xFFFF = 0xDFFE ∧ bitStep 0x8000 = 0x4000 ∧ bitStep 0x0003 = 0xA000 := by decide
theorem test_byte_step : byteStep 0xFFFF 0x09 = 0x467F ∧ byteStep 0x467F 0x10 = 0x2C06 ∧ byteStep 0x1234 0x56 = 0xE993 := by
  decide

theorem test_crc16_inside :
    after lastResult (exec (.crc16 [0xAA, 0xBB, 0x09, 0x10, 0x03, 0xCC] 2 3) (idleAt [])) =
      some (some (.ok (.pair 0xEC 0x03))) := by decide +kernel

theorem test_crc16_negative :
    after lastResult (exec (.crc16 [0xAA, 0xBB] (-1) 2) (idleAt [])) = some (some (.err .illegalOp)) := by decide +kernel

theorem test_crc16_check_value :
    crcOf [0x31, 0x32, 0x33, 0x34, 0x35, 0x36, 0x37, 0x38, 0x39] = 0x4B37 := by decide +kernel

/-! ### Frame Codec and Status Decoder (sections 1, 4 and 7) -/

theorem test_build_setpose :
    after lastResult (exec (.buildSetpose 0 255 128) (idleAt [])) = some (some (.ok (.frame
      [0x09, 0x10, 0x03, 0xE8, 0x00, 0x03, 0x06, 0x09, 0x00, 0x00, 0x00, 0xFF, 0x80, 0x33, 0xF9]))) := by decide +kernel

theorem test_build_setpose_order : Wire.setPose 1 2 3 =
    [0x09, 0x10, 0x03, 0xE8, 0x00, 0x03, 0x06, 0x09, 0x00, 0x00, 0x01, 0x02, 0x03, 0x63, 0x08] := by decide +kernel

theorem test_constants_carry_their_checksum :
    Wire.fresh Wire.deactivate = true ∧ Wire.fresh Wire.activate = true ∧ Wire.fresh Wire.statusPoll = true ∧
    Wire.fresh Wire.readState = true ∧ Wire.fresh Wire.ack = true ∧ Wire.fresh Wire.actComplete = true ∧
    Wire.fresh Wire.actPending = true := by decide +kernel

theorem test_is_ack :
    after lastResult (exec (.isAck [0x09, 0x10, 0x03, 0xE8, 0x00, 0x03, 0x01, 0x31]) (idleAt [])) =
      some (some (.ok (.flag false))) := by decide
theorem test_is_act_complete :
    after lastResult (exec (.isActComplete [0x09, 0x03, 0x02, 0x11, 0x00, 0x55, 0xD5]) (idleAt [])) =
      some (some (.ok (.flag true))) := by decide
theorem test_is_act_pending :
    after lastResult (exec (.isActPending [0x09, 0x03, 0x02, 0x11, 0x00, 0x55, 0xD5]) (idleAt [])) =
      some (some (.ok (.flag false))) := by decide

theorem test_decode_status :
    after lastResult (exec (.decodeStatus [0x09, 0x03, 0x06, 0x59, 0x00, 0x00, 0xFF, 0x7D, 0x0A, 0xDB, 0x1B]) (idleAt [])) =
      some (some (.ok (.status ⟨1, 1, 1, 1, 0, 255, 125, 100⟩))) := by decide
theorem test_decode_status_unequal_fields :
    decodeStatus [0, 0, 0, 0b10110110, 0, 0x11, 0x22, 0x33, 0xFF, 0, 0] =
      some ⟨0, 0, 3, 2, 0x11, 0x22, 0x33, 2550⟩ := by decide

/-! ### Clamping and scaling (section 5) -/

theorem test_clamp :
    clamp255 0xFFFFFFF6 = 0 ∧ clamp255 0x0000012C = 255 ∧ clamp255 0x00000080 = 128 ∧ clamp255 0x80000000 = 0 ∧
    clamp255 0x7FFFFFFF = 255 ∧ clamp255 0x000000FE = 254 ∧ clamp255 0x00000100 = 255 := by decide

/-- 0.5, 0.2, the value below 1.0, 1.0, -0.5, the value nearest 1/255, and 1e308 (the product overflows). -/
theorem test_scale :
    scale255 0 0x3FE0000000000000 = 127 ∧ scale255 0 0x3FC999999999999A = 51 ∧ scale255 0 0x3FEFFFFFFFFFFFFF = 254 ∧
    scale255 0 0x3FF0000000000000 = 255 ∧ scale255 0 0xBFE0000000000000 = 0 ∧ scale255 0 0x3F70101010101010 = 1 ∧
    scale255 0 0x7FE1CCF385EBC8A0 = 255 := by decide +kernel

/-! ### Session operations (section 9) -/

/-- Program P1. -/
theorem test_connect_handshake :
    after (fun s => (s.fsm, lastResult s, s.history))
        (exec .connect (idleAt [.openOk [], .writeOk, .bytes Wire.ack, .writeOk, .bytes Wire.ack, .writeOk,
          .bytes Wire.actComplete])) =
      some (.ready, some (.ok .unit), handshake) := by decide +kernel

/-- Program P4, second part: an unrecognised pattern. -/
theorem test_connect_restart_error :
    after (fun s => (s.fsm, s.tp, lastResult s))
        (exec .connect (idleAt [.openOk [], .writeOk, .bytes Wire.ack, .writeOk, .bytes Wire.ack, .writeOk,
          .bytes [0x09, 0x03, 0x02, 0x00, 0x00, 0x59, 0x85], .closed true])) =
      some (.disconnected, .released, some (.err .restartError)) := by decide +kernel

theorem test_disconnect :
    after (fun s => (s.fsm, s.tp, s.history.getLast?)) (exec .disconnect (readyAt [.closed false])) =
      some (.disconnected, .released, some (.closed false)) := by decide

/-- R160 and R262: DISCONNECT does not write SYNC, and the persistent state is that of reset. -/
theorem test_disconnect_sync :
    after (fun s => (s.sync, persistent s)) (exec .disconnect ({ readyAt [.closed true] with sync := .indeterminate })) =
      some (.indeterminate, persistent (State.construct 0 0)) := by decide

/-- R275: when the lock is free and no caller acts, the waiting operation runs. -/
theorem test_waiter_gets_the_lock :
    after (fun s => (s.waiters, s.results))
        (step ({ idleAt [.openOk []] with waiters := [⟨4, .getState⟩] })) = some ([], [⟨4, .err .notConnected⟩]) := by
  have h : handsOver { idleAt [.openOk []] with waiters := [⟨4, .getState⟩] } = true := by decide
  obtain ⟨w, -, hw, e⟩ := step_handsOver h
  have h0 : drawnWaiter { idleAt [.openOk []] with waiters := [⟨4, .getState⟩] } = 0 := Nat.mod_one _
  rw [h0] at hw e
  cases hw
  rw [e]
  rfl

theorem test_is_connected :
    after lastResult (exec .isConnected (readyAt [])) = some (some (.ok (.flag true))) ∧
    after lastResult (exec .isConnected (busyAt .polling (.reading .poll) none [])) = some (some (.ok (.flag false))) := by
  decide

/-- S4: POSE(-10, 300, 128). -/
theorem test_pose :
    after (fun s => (s.history.drop 7, lastResult s))
        (exec (.pose 0xFFFFFFF6 0x0000012C 0x00000080) (readyAt [.writeOk, .bytes Wire.ack])) =
      some ([.wrote [0x09, 0x10, 0x03, 0xE8, 0x00, 0x03, 0x06, 0x09, 0x00, 0x00, 0x00, 0xFF, 0x80, 0x33, 0xF9] true,
        .didRead 8 0 (.bytes Wire.ack)], some (.ok .unit)) := by decide +kernel

/-- POSE_NORM(-0.5, 2.0, 0.5). -/
theorem test_pose_norm :
    after (fun s => (s.history.drop 7, lastResult s))
        (exec (.poseNorm 0xBFE0000000000000 0x4000000000000000 0x3FE0000000000000) (readyAt [.writeOk, .bytes Wire.ack])) =
      some ([.wrote [0x09, 0x10, 0x03, 0xE8, 0x00, 0x03, 0x06, 0x09, 0x00, 0x00, 0x00, 0xFF, 0x7F, 0x73, 0xB9] true,
        .didRead 8 0 (.bytes Wire.ack)], some (.ok .unit)) := by decide +kernel

theorem test_get_state :
    after lastResult (exec .getState (readyAt [.writeOk,
        .bytes [0x09, 0x03, 0x06, 0x59, 0x00, 0x00, 0xFF, 0x7D, 0x0A, 0xDB, 0x1B]])) =
      some (some (.ok (.status ⟨1, 1, 1, 1, 0, 255, 125, 100⟩))) := by decide +kernel

/-- R266: a late ack from a failed exchange is taken as part of the next reply. -/
theorem test_get_state_takes_stale_bytes :
    after (fun s => s.rx) (exec .getState ({ readyAt [.writeOk, .bytes [1, 2, 3, 4, 5, 6, 7, 8, 9, 10, 11]] with
        rx := Wire.ack })) = some [4, 5, 6, 7, 8, 9, 10, 11] := by decide +kernel

/-! ### Frames, one step each -/

theorem test_request_frame_passes :
    after (fun s => s.opstep) (exec .activateReq (busyAt .activating (.writing .activate) (some Wire.activate) [])) =
      some (.busy 7 (.reading .activate)) := by decide
theorem test_ack_advances :
    after (fun s => (s.fsm, s.work.txbuf)) (exec .ackRsp (busyAt .deactivating (.reading .deactivate) none [])) =
      some (.activating, some Wire.activate) := by decide
theorem test_act_complete_ends_connect :
    after (fun s => (s.fsm, s.results)) (exec .actCompleteRsp (busyAt .polling (.reading .poll) none [])) =
      some (.ready, [⟨7, .ok .unit⟩]) := by decide
theorem test_act_pending_polls_again :
    after dueFrame (exec .actPendingRsp (busyAt .polling (.reading .poll) none [])) = some (some Wire.statusPoll) := by
  decide
theorem test_state_reply_ends_get_state :
    after (fun s => (s.fsm, s.lock, s.results.length))
        (exec (.stateRsp [0, 0, 0, 0, 0, 0, 0, 0, 0, 0, 0]) (busyAt .ready (.reading .readState) none [])) =
      some (.ready, .free, 1) := by decide

/-! ### The codes and texts of the tables (R12, R87, R227) -/

theorem test_codes : Fsm.faulted.code = 6 ∧ Fsm.faulted.conn = .disconnected ∧ Result.code (.err .restartError) = 0x32 ∧
    Error.cls .sendRejected = .protocolError := by decide
theorem test_event_text : Event.text (.didRead 8 0 (.bytes Wire.ack)) = "RX(8): 09 10 03 E8 00 03 01 30" := by decide +kernel

/-! ### Witnesses: the hypotheses of each obligation can be met -/

theorem test_witness_DecodeOfEncodeIsTheInstruction :
    WellFormed (.setposeReq 0xFF 0xFF 0xFF 0x42 0x29) ∧ WellFormed (.stateRsp [0, 0, 0, 0, 0, 0, 0, 0, 0, 0, 0]) ∧
      WellFormed .connect := by
  decide +kernel

theorem test_witness_EncodeOfDecodedFrameIsTheFrame :
    decode (.toDevice (Wire.setPose 0 0 0)) = .ok (.setposeReq 0 0 0 0x73 0xA9) ∧
      decode (.fromDevice Wire.actPending) = .ok .actPendingRsp := by
  decide +kernel

theorem test_witness_UnassignedOpReturnsIllegalOp :
    (idleAt [.command 3 0x06 .zero]).inputs = [.command 3 0x06 .zero] ∧
      ([0x06, 0x0F, 0x1A, 0x1F] : List (BitVec 5)).all (fun op =>
        decide ((0x06 ≤ op.toNat ∧ op.toNat ≤ 0x0F) ∨ 0x1A ≤ op.toNat)) = true := by
  decide

theorem test_witness_StepRunsTheDecodedInstruction :
    ((idleAt [.command 3 0x01 .zero]).inputs = [.command 3 0x01 .zero] ∧ decode (.host 0x01 .zero) = .ok .connect) ∧
      ((idleAt [.bytes Wire.ack]).inputs = [.bytes Wire.ack] ∧ decode (.fromDevice Wire.ack) = .ok .ackRsp) ∧
      ((busyAt .polling (.writing .poll) (some Wire.statusPoll) [.writeOk]).inputs = [.writeOk] ∧
        dueFrame (busyAt .polling (.writing .poll) (some Wire.statusPoll) [.writeOk]) = some Wire.statusPoll ∧
        decode (.toDevice Wire.statusPoll) = .ok .statuspollReq) ∧
      ((idleAt [.grant 0]).inputs = [.grant 0] ∧ (idleAt [.grant 0]).lock = .free ∧
        ({ idleAt [.grant 0] with waiters := [⟨4, .getState⟩] } : State).waiters[0]? = some ⟨4, .getState⟩) := by
  decide

theorem test_witness_StepRunsTheDecodedInstruction_locks :
    let u := busyAt .polling (.writing .poll) (some Wire.statusPoll) [.writeOk]
    let v := ({ idleAt [] with waiters := [⟨4, .getState⟩] } : State)
    let w := ({ idleAt [.closed true] with waiters := [⟨4, .getState⟩, ⟨5, .connect⟩] } : State)
    u.lock = .held ∧ (v.lock = .free ∧ v.waiters ≠ [] ∧ v.inputs = []) ∧
      w.lock = .free ∧ w.waiters ≠ [] ∧ w.inputs = .closed true :: [] ∧ (Input.closed true).isAnswer = true ∧
      ∀ b, Input.closed true ≠ .bytes b := by
  refine ⟨rfl, ⟨rfl, by decide, rfl⟩, rfl, by decide, rfl, rfl, fun b h => ?_⟩
  cases h

theorem test_witness_Crc16RunsTheLoop :
    ((0 : Int) ≤ 2 ∧ (0 : Int) ≤ 3 ∧ (2 : Int) + 3 ≤ ([0xAA, 0xBB, 0x09, 0x10, 0x03, 0xCC] : List Byte).length) ∧
      (0 : Int) ≤ 6 ∧ (0 : Int) ≤ 0 ∧ (6 : Int) + 0 ≤ ([0, 0, 0, 0, 0, 0] : List Byte).length := by
  decide

theorem test_witness_Crc16OutsideItsRangeIsIllegalOp :
    (([0, 0, 0, 0, 0, 0] : List Byte).length : Int) < 4 + 3 ∧ (([0, 0, 0, 0, 0, 0] : List Byte).length : Int) < 7 + 0 ∧
      (-1 : Int) < 0 := by
  decide

theorem test_witness_DecodeStatusFollowsTheFieldTable :
    ([0, 0, 0, 0, 0, 0, 0, 0, 0, 0] : List Byte).length ≠ 11 ∧ ([0, 0, 0, 0, 0, 0, 0, 0, 0, 0, 0, 0] : List Byte).length ≠ 11 := by
  decide

theorem test_witness_UnreadStatusBitsDoNotMatter :
    let r : List Byte := [9, 3, 6, 0x59, 0, 1, 2, 3, 4, 0xDB, 0x1B]
    let q : List Byte := [0, 0, 0, 0x5F, 7, 1, 2, 3, 4, 0, 0]
    r.length = 11 ∧ q.length = 11 ∧ r.getD 3 0 &&& 0xF9#8 = q.getD 3 0 &&& 0xF9#8 ∧
      r.getD 5 0 = q.getD 5 0 ∧ r.getD 6 0 = q.getD 6 0 ∧ r.getD 7 0 = q.getD 7 0 ∧ r.getD 8 0 = q.getD 8 0 := by
  decide

theorem test_witness_ConnectRunsTheHandshake :
    let start : List Input := [.openOk [], .writeOk, .bytes Wire.ack, .writeOk, .bytes Wire.ack]
    let loop : List Input := (List.replicate 1 [Input.writeOk, .bytes Wire.actPending]).flatten
    let finish : List Input := [.writeOk, .bytes Wire.actComplete]
    let rest : List Input := [.grant 0]
    let s := idleAt [.openOk [], .writeOk, .bytes Wire.ack, .writeOk, .bytes Wire.ack, .writeOk, .bytes Wire.actPending,
      .writeOk, .bytes Wire.actComplete, .grant 0]
    s.lock = .free ∧ s.fsm ≠ .ready ∧ s.inputs = start ++ loop ++ finish ++ rest := by
  decide

theorem test_witness_PollLoopHasNoBound :
    let start : List Input := [.openOk [], .writeOk, .bytes Wire.ack, .writeOk, .bytes Wire.ack]
    let loop : List Input := (List.replicate 1 [Input.writeOk, .bytes Wire.actPending]).flatten
    let s := idleAt [.openOk [], .writeOk, .bytes Wire.ack, .writeOk, .bytes Wire.ack, .writeOk, .bytes Wire.actPending]
    s.lock = .free ∧ s.fsm ≠ .ready ∧ s.inputs = start ++ loop := by
  decide

theorem test_witness_ConnectInReadyIsANoOp :
    let s := ({ readyAt [] with sync := .indeterminate } : State)
    Consistent s ∧ s.lock = .free ∧ s.fsm = .ready := by
  decide +kernel

theorem test_witness_RefusedOpenEndsDisconnected :
    let s := idleAt [.openRefused, .openOk []]
    s.lock = .free ∧ s.fsm ≠ .ready ∧ s.inputs = .openRefused :: [.openOk []] ∧ Consistent s := by
  decide

theorem test_witness_RejectedHandshakeStepEndsDisconnected :
    let b : List Byte := [0x09, 0x10, 0x03, 0xE8, 0x00, 0x03, 0x01, 0x31]
    let d : List Byte := [0x09, 0x03, 0x02, 0x00, 0x00, 0x59, 0x85]
    let l1 : List Input := [.openOk [], .writeOk, .bytes b, .closed false]
    let l2 : List Input := [.openOk [], .writeOk, .bytes Wire.ack, .writeOk, .bytes b, .closed true]
    let start : List Input := [.openOk [], .writeOk, .bytes Wire.ack, .writeOk, .bytes Wire.ack]
    let loop : List Input := (List.replicate 1 [Input.writeOk, .bytes Wire.actPending]).flatten
    let finish : List Input := [.writeOk, .bytes d, .closed true]
    let l3 : List Input := [.openOk [], .writeOk, .bytes Wire.ack, .writeOk, .bytes Wire.ack, .writeOk,
      .bytes Wire.actPending, .writeOk, .bytes d, .closed true]
    (idleAt l1).lock = .free ∧ (idleAt l1).fsm ≠ .ready ∧ (idleAt l1).inputs = l1 ++ [] ∧ b.length = 8 ∧ b ≠ Wire.ack ∧
      (idleAt l2).inputs = l2 ++ [] ∧ (idleAt l3).inputs = start ++ loop ++ finish ++ [] ∧
      d.length = 7 ∧ d ≠ Wire.actComplete ∧ d ≠ Wire.actPending := by
  decide

theorem test_witness_HandshakeTransportErrorPassesThroughFaulted :
    let u := busyAt .polling (.writing .poll) (some Wire.statusPoll) [.writeFailed, .closed true]
    let v := busyAt .deactivating (.reading .deactivate) none [.timeout, .closed false]
    let w := busyAt .activating (.reading .activate) none [.endOfStream, .closed true]
    (Exch.poll.handshake = true ∧ u.tp = .held ∧ u.lock = .held ∧ u.opstep = .busy 7 (.writing .poll) ∧
        u.work.txbuf = some Wire.statusPoll ∧ u.inputs = .writeFailed :: .closed true :: []) ∧
      (Exch.deactivate.handshake = true ∧ v.tp = .held ∧ v.lock = .held ∧ v.opstep = .busy 7 (.reading .deactivate) ∧
        v.inputs = .timeout :: .closed false :: []) ∧
      (Exch.activate.handshake = true ∧ w.tp = .held ∧ w.lock = .held ∧ w.opstep = .busy 7 (.reading .activate) ∧
        w.inputs = .endOfStream :: .closed true :: []) := by
  decide

theorem test_witness_DisconnectReleasesTheTransport :
    ((idleAt []).lock = .free ∧ (idleAt []).fsm = .disconnected) ∧
      ((readyAt [.closed false]).lock = .free ∧ (readyAt [.closed false]).fsm ≠ .disconnected ∧
        (readyAt [.closed false]).inputs = .closed false :: []) ∧
      (busyAt .polling (.reading .poll) none []).lock = .held := by
  decide

theorem test_witness_CloseErrorsAreSwallowed :
    (Consistent { idleAt [] with sync := .indeterminate } ∧ (idleAt []).lock = .free ∧ (idleAt []).fsm = .disconnected) ∧
      (busyAt .faulted (.failing .restartError) none []).opstep = .busy 7 (.failing .restartError) ∧
      (busyAt .ready .closing none []).opstep = .busy 7 .closing := by
  decide

theorem test_witness_TransportAnswersFollowTheTransitionTable :
    let s := ({ busyAt .deactivating (.writing .deactivate) (some Wire.deactivate) [] with history := [.opened 0 true] } : State)
    Consistent s := by
  decide +kernel

theorem test_witness_OnlyConnectAndDisconnectWriteFsm :
    encode .getState = .host 0x05 .zero ∧ Instr.getState ≠ .connect ∧ Instr.getState ≠ .disconnect ∧
      after (fun s => (s.fsm, s.tp)) (exec .getState (readyAt [.writeOk, .timeout])) = some (.ready, .held) := by
  decide +kernel

theorem test_witness_LockedOperationsWait :
    takesLock (.pose 1 2 3) = true ∧ (busyAt .polling (.reading .poll) none []).lock = .held := by
  decide

theorem test_witness_LockIsReleasedWhenAResultIsDelivered :
    let s := busyAt .ready (.reading .setPose) none []
    (answer .timeout s).results ≠ s.results := by
  decide

theorem test_witness_PoseWritesAndRequiresTheAck :
    let s := ({ readyAt [.writeOk, .bytes [0x00, 0x03, 0x01, 0x30, 0xAB]] with rx := [0x09, 0x10, 0x03, 0xE8] } : State)
    let t := ({ readyAt [.writeOk, .bytes [0x00]] with rx := Wire.actPending } : State)
    (t.lock = .free ∧ t.fsm = .ready ∧ t.inputs = .writeOk :: .bytes [0x00] :: [] ∧ 8 ≤ (t.rx ++ [0x00]).length ∧
        (t.rx ++ [0x00]).take 8 ≠ Wire.ack) ∧
      s.lock = .free ∧ s.fsm = .ready ∧ s.inputs = .writeOk :: .bytes [0x00, 0x03, 0x01, 0x30, 0xAB] :: [] ∧
      8 ≤ (s.rx ++ [0x00, 0x03, 0x01, 0x30, 0xAB]).length ∧ (s.rx ++ [0x00, 0x03, 0x01, 0x30, 0xAB]).take 8 = Wire.ack := by
  decide

/-- One reply that is the ack and one that is not, of just eight bytes. -/
theorem test_witness_PoseNormWritesAndRequiresTheAck :
    let b : List Byte := [0x09, 0x90, 0x03, 0xE8, 0x00, 0x03, 0x01, 0x30]
    let s := readyAt [.writeOk, .bytes Wire.ack]
    let t := readyAt [.writeOk, .bytes b]
    (s.lock = .free ∧ s.fsm = .ready ∧ s.inputs = .writeOk :: .bytes Wire.ack :: [] ∧ 8 ≤ (s.rx ++ Wire.ack).length ∧
        (s.rx ++ Wire.ack).take 8 = Wire.ack) ∧
      t.lock = .free ∧ t.fsm = .ready ∧ t.inputs = .writeOk :: .bytes b :: [] ∧ 8 ≤ (t.rx ++ b).length ∧
      (t.rx ++ b).take 8 ≠ Wire.ack := by
  decide

theorem test_witness_GetStateReturnsTheDecodedReply :
    let b : List Byte := [0x09, 0x03, 0x06, 0x59, 0x00, 0x00, 0xFF, 0x7D, 0x0A, 0xDB, 0x1B]
    let s := readyAt [.writeOk, .bytes b]
    s.lock = .free ∧ s.fsm = .ready ∧ s.inputs = .writeOk :: .bytes b :: [] ∧ 11 ≤ (s.rx ++ b).length := by
  decide

theorem test_witness_CommandsOutsideReadyAreNotConnected :
    Consistent (idleAt []) ∧ (idleAt []).lock = .free ∧ (idleAt []).fsm ≠ .ready := by
  decide

theorem test_witness_RejectedSendStaysReady :
    let b : List Byte := [0x09, 0x90, 0x03, 0xE8, 0x00, 0x03, 0x01, 0x30]
    let s := readyAt [.writeOk, .bytes b]
    s.lock = .free ∧ s.fsm = .ready ∧ s.inputs = .writeOk :: .bytes b :: [] ∧ 8 ≤ (s.rx ++ b).length ∧
      (s.rx ++ b).take 8 ≠ Wire.ack := by
  decide

theorem test_witness_FailedWriteInReadySkipsTheRead :
    let s := readyAt [.writeFailed, .bytes Wire.ack]
    s.lock = .free ∧ s.fsm = .ready ∧ s.inputs = .writeFailed :: [.bytes Wire.ack] := by
  decide

theorem test_witness_FailedReadInReadyStaysReady :
    let s := readyAt [.writeOk, .timeout]
    let t := readyAt [.writeOk, .endOfStream]
    s.lock = .free ∧ s.fsm = .ready ∧ s.inputs = .writeOk :: .timeout :: [] ∧
      t.lock = .free ∧ t.fsm = .ready ∧ t.inputs = .writeOk :: .endOfStream :: [] := by
  decide

theorem test_witness_WaitingPoseHoldsItsRegisters :
    (readyAt []).lock = .free ∧ (readyAt []).fsm = .ready ∧ (readyAt []).inputs = [] := by
  decide

theorem test_witness_ScaleIsClampOfTruncatedProduct :
    (F64.ofBits 0xBFE0000000000000).mul255 = .finite true 8972014882652160 1028 := by
  decide +kernel

/-- The two significands around the overflow: 255 times the first is 2 ^ 60 - 271, which rounds to 2 ^ 60 - 256, and 255 times the
second is 2 ^ 60 - 16, which rounds to 2 ^ 60. -/
theorem test_witness_ScaleIsClampOfTruncatedProduct_overflow :
    F64.mul255 (.finite true 4521260802379791 2038) = .finite true (2 ^ 53 - 2) (2038 + 7) ∧
      F64.mul255 (.finite true 4521260802379792 2038) = .infinite true := by
  decide +kernel

theorem test_witness_NonFiniteOperandsAreNeverRejected :
    (F64.ofBits 0x7FE1CCF385EBC8A0).mul255 = .infinite false ∧
      ((0x7FF8000000000000#64).extractLsb' 52 11).toNat = 2047 ∧ ((0x7FF8000000000000#64).extractLsb' 0 52).toNat ≠ 0 ∧
      ((0xFFF0000000000001#64).extractLsb' 52 11).toNat = 2047 ∧ ((0xFFF0000000000001#64).extractLsb' 0 52).toNat ≠ 0 := by
  decide +kernel

theorem test_witness_ScaleIsMonotone :
    F64.ofBits 0xBFE0000000000000 = .finite true (2 ^ 52) 1021 ∧ F64.ofBits 0x0000000000000001 = .finite false 1 0 ∧
      (if true then -((2 ^ 52 * 2 ^ 1021 : Nat) : Int) else ((2 ^ 52 * 2 ^ 1021 : Nat) : Int)) ≤
        (if false then -((1 * 2 ^ 0 : Nat) : Int) else ((1 * 2 ^ 0 : Nat) : Int)) := by
  decide +kernel

theorem test_witness_RequestFramesAreHandedOver :
    (busyAt .deactivating (.writing .deactivate) (some Wire.deactivate) []).work.txbuf = some Wire.deactivate ∧
      (busyAt .activating (.writing .activate) (some Wire.activate) []).work.txbuf = some Wire.activate ∧
      (busyAt .ready (.writing .setPose) (some (Wire.setPose 1 2 3)) []).work.txbuf =
        some (Wire.setPoseBody 1 2 3 ++ [0x63, 0x08]) ∧
      (busyAt .polling (.writing .poll) (some Wire.statusPoll) []).work.txbuf = some Wire.statusPoll ∧
      (busyAt .ready (.writing .readState) (some Wire.readState) []).work.txbuf = some Wire.readState ∧
      (busyAt .ready (.writing .readState) (some Wire.readState) []).opstep = .busy 7 (.writing .readState) := by
  decide +kernel

theorem test_witness_FramesThatAreNotDueDoNothing :
    encode .deactivateReq = .toDevice Wire.deactivate ∧ dueFrame (readyAt []) ≠ some Wire.deactivate := by
  decide

theorem test_witness_AckAdvancesTheOperation :
    (busyAt .deactivating (.reading .deactivate) none []).rx = [] ∧
      (busyAt .deactivating (.reading .deactivate) none []).opstep = .busy 7 (.reading .deactivate) ∧
      (busyAt .activating (.reading .activate) none []).opstep = .busy 7 (.reading .activate) ∧
      (busyAt .ready (.reading .setPose) none []).opstep = .busy 7 (.reading .setPose) := by
  decide

theorem test_witness_ActivationRepliesEndOrRepeatThePoll :
    (busyAt .polling (.reading .poll) none []).rx = [] ∧
      (busyAt .polling (.reading .poll) none []).opstep = .busy 7 (.reading .poll) := by
  decide

theorem test_witness_AnyStateReplyIsDecoded :
    let bs : List Byte := [0, 0, 0, 0, 0, 0, 0, 0, 0, 0, 0]
    bs.length = 11 ∧ (busyAt .ready (.reading .readState) none []).rx = [] ∧
      (busyAt .ready (.reading .readState) none []).opstep = .busy 7 (.reading .readState) := by
  decide

theorem test_witness_UnsolicitedFramesWaitInRx :
    encode .ackRsp = .fromDevice Wire.ack ∧ ∀ c x, (readyAt []).opstep ≠ .busy c (.reading x) := by
  refine ⟨by decide, fun c x h => ?_⟩
  cases h

theorem test_witness_ReadsTakeTheOldestBytes :
    let s := ({ busyAt .ready (.reading .setPose) none [] with rx := [1, 2, 3, 4, 5] } : State)
    s.opstep = .busy 7 (.reading .setPose) ∧ Exch.setPose.replyLen ≤ (s.rx ++ [6, 7, 8]).length ∧
      (s.rx ++ [6, 7]).length < Exch.setPose.replyLen := by
  decide

theorem test_witness_StepKeepsConsistent :
    let s := readyAt [.command 0 0x05 .zero, .writeOk, .endOfStream]
    Consistent s ∧ after (fun t => t.sync) (step s) = some .indeterminate := by
  decide +kernel

theorem test_witness_FreeLockMeansQuietBlock :
    Consistent (readyAt []) ∧ (readyAt []).lock = .free := by
  decide +kernel

theorem test_witness_EveryFrameSentCarriesItsChecksum :
    Consistent (readyAt []) ∧ Event.wrote Wire.statusPoll true ∈ (readyAt []).history := by
  decide +kernel

theorem test_witness_EveryWriteIsFollowedByItsRead :
    let pre : List Event :=
      [.opened 0 true, .wrote Wire.deactivate true, .didRead 8 0 (.bytes Wire.ack), .wrote Wire.activate true,
        .didRead 8 0 (.bytes Wire.ack)]
    let pair : List Event := [.wrote Wire.statusPoll true, .didRead 7 0 (.bytes Wire.actComplete)]
    Consistent (readyAt []) ∧ (readyAt []).history = pre ++ pair ++ [] := by
  decide +kernel

theorem test_witness_ParametersAreNeverWritten :
    after (fun t => (t.tpParams, t.timeout)) (step (idleAt [.command 0 0x01 .zero, .openRefused])) = some (0, 0) := by
  decide +kernel

theorem test_witness_RecordsOnlyGrow :
    after (fun t => (t.history.length, t.results.length)) (step (idleAt [.command 0 0x01 .zero, .openRefused])) = some (1, 1) := by
  decide +kernel

end Sys2Proof.Tests
end

section
/-! What the fetch finds at each input, and from it that a step runs the decoded instruction (00_scope.md R6, 20_memory.md R59,
70_reset_and_hazards.md R275; logs 1 and 8). -/

namespace Sys2Proof.Proofs

open Sys2Proof.Machine

/-! ### What stands at each source of instructions -/

theorem fetchCommand_of_decode {op : BitVec 5} {args : Operands} {i : Instr} (hd : decode (.host op args) = .ok i)
    (c : Nat) (s : State) : fetchCommand c op args s = .run i (setPort c s) := by
  simp [fetchCommand, hd]

theorem fetchBytes_of_decode {b : List Byte} {i : Instr} (hd : decode (.fromDevice b) = .ok i) (s : State) :
    fetchBytes b s = .run i s := by
  simp [fetchBytes, hd]

theorem fetchWrite_of_decode {s : State} {f : List Byte} {i : Instr} (hdue : dueFrame s = some f)
    (hd : decode (.toDevice f) = .ok i) : fetchWrite s = .run i s := by
  simp [fetchWrite, hdue, hd]

theorem fetchGrant_of_free {s : State} {k : Nat} {w : Waiter} (hl : s.lock = .free) (hw : s.waiters[k]? = some w) :
    fetchGrant k s = .run w.op (setPort w.caller (setWaiters (s.waiters.eraseIdx k) s)) := by
  simp [fetchGrant, hl, hw]

/-- Only `OPSTEP` and `TXBUF` say which frame is due, so taking an input leaves it due. -/
@[simp] theorem dueFrame_setInputs (l : List Input) (s : State) : dueFrame (setInputs l s) = dueFrame s := rfl

/-! ### Which source the step turns to -/

theorem fetchInput_command {s : State} {c : Nat} {op : BitVec 5} {args : Operands} {l : List Input}
    (h : s.inputs = .command c op args :: l) : fetchInput s = fetchCommand c op args (setInputs l s) := by
  simp [fetchInput, h]

theorem fetchInput_bytes {s : State} {b : List Byte} {l : List Input} (h : s.inputs = .bytes b :: l) :
    fetchInput s = fetchBytes b (setInputs l s) := by
  simp [fetchInput, h]

theorem fetchInput_writeOk {s : State} {l : List Input} (h : s.inputs = .writeOk :: l) :
    fetchInput s = fetchWrite (setInputs l s) := by
  simp [fetchInput, h]

theorem fetchInput_grant {s : State} {k : Nat} {l : List Input} (h : s.inputs = .grant k :: l) :
    fetchInput s = fetchGrant k (setInputs l s) := by
  simp [fetchInput, h]

/-- Every answer but bytes lets a waiter go first: only the next holder of the lock can make the call it answers (log 8). -/
theorem noCallerActs_of_isAnswer {a : Input} (ha : a.isAnswer = true) (hb : ∀ b, a ≠ .bytes b) (l : List Input) :
    noCallerActs (a :: l) = true := by
  cases a with
  | command c op args => cases ha
  | grant k => cases ha
  | bytes b => exact absurd rfl (hb b)
  | _ => rfl

theorem handsOver_of_waiting {s : State} (hl : s.lock = .free) (hw : s.waiters ≠ [])
    (hn : noCallerActs s.inputs = true) : handsOver s = true := by
  simp [handsOver, hl, hw, hn]

/-! ### The step, source by source -/

/-- Where no waiter goes first, a step runs what the first input brings. -/
theorem step_of_fetchInput_run {s t : State} {i : Instr} (ho : handsOver s = false) (hf : fetchInput s = .run i t) :
    step s = exec i t := by
  simp [step, fetch_input ho, hf]

theorem step_command {s : State} {c : Nat} {op : BitVec 5} {args : Operands} {l : List Input} {i : Instr}
    (h : s.inputs = .command c op args :: l) (hd : decode (.host op args) = .ok i) :
    step s = exec i (setPort c (setInputs l s)) :=
  step_of_fetchInput_run (handsOver_caller (by rw [h]; rfl))
    ((fetchInput_command h).trans (fetchCommand_of_decode hd c _))

theorem step_bytes {s : State} {b : List Byte} {l : List Input} {i : Instr} (h : s.inputs = .bytes b :: l)
    (hd : decode (.fromDevice b) = .ok i) : step s = exec i (setInputs l s) :=
  step_of_fetchInput_run (handsOver_caller (by rw [h]; rfl)) ((fetchInput_bytes h).trans (fetchBytes_of_decode hd _))

theorem step_writeOk {s : State} {f : List Byte} {l : List Input} {i : Instr} (h : s.inputs = .writeOk :: l)
    (hl : s.lock = .held) (hdue : dueFrame s = some f) (hd : decode (.toDevice f) = .ok i) :
    step s = exec i (setInputs l s) :=
  step_of_fetchInput_run (handsOver_held hl)
    ((fetchInput_writeOk h).trans (fetchWrite_of_decode ((dueFrame_setInputs l s).trans hdue) hd))

theorem step_grant {s : State} {k : Nat} {w : Waiter} {l : List Input} (h : s.inputs = .grant k :: l)
    (hl : s.lock = .free) (hw : s.waiters[k]? = some w) :
    step s = exec w.op (setPort w.caller (setWaiters (s.waiters.eraseIdx k) (setInputs l s))) :=
  step_of_fetchInput_run (handsOver_caller (by rw [h]; rfl))
    ((fetchInput_grant h).trans (fetchGrant_of_free (s := setInputs l s) hl hw))

/-- Settles O6, one source of instructions after the other: the host port, RX, `TXBUF`, the waiter that the outside names, and
the waiter that the free value of log 8 picks. -/
theorem stepRunsTheDecodedInstruction : Obligations.StepRunsTheDecodedInstruction := by
  unfold Obligations.StepRunsTheDecodedInstruction
  refine ⟨fun s c op args rest i h hd => step_command h hd, fun s b rest i h hd => step_bytes h hd,
    fun s f rest i h hl hdue hd => step_writeOk h hl hdue hd, fun s k w rest h hl hw => step_grant h hl hw, ?_⟩
  intro s hl hw hin
  have hn : noCallerActs s.inputs = true := by
    rcases hin with h | ⟨a, rest, h, ha, hb⟩
    · rw [h]; rfl
    · rw [h]; exact noCallerActs_of_isAnswer ha hb rest
  obtain ⟨w, -, hpick, hstep⟩ := step_handsOver (handsOver_of_waiting hl hw hn)
  exact ⟨drawnWaiter s, w, rfl, hpick, hstep⟩

end Sys2Proof.Proofs
end

section
/-! Reset, the invariant `Consistent` and what every step keeps (10_state.md R26, R31, R32; 42_activation_fsm.md R162, R163). A
step is taken apart once, into the few moves below; each invariant is then one proof per move. -/

namespace Sys2Proof.Proofs

open Sys2Proof.Machine

/-! ### What an instruction does, by its kind -/

/-- The body that a locked operation runs once it has the lock; `exec_cases` ties it to `exec`. -/
def bodyOf : Instr → Nat → State → State
  | .connect => connectBody
  | .disconnect => disconnectBody
  | .pose p v f => poseBody p v f
  | .poseNorm p v f => poseNormBody p v f
  | .getState => getStateBody
  | _ => fun _ s => s

/-- An instruction is a locked operation, an operation that only returns a result, a request frame or a reply frame. -/
theorem exec_cases (i : Instr) (s : State) :
    (takesLock i = true ∧ exec i s = .next (locked i (bodyOf i) s)) ∨
    (∃ r, exec i s = .next (returns r s)) ∨
    (∃ f, encode i = .toDevice f ∧ exec i s = .next (passes f s)) ∨
    (∃ b, encode i = .fromDevice b ∧ exec i s = .next (answer (.bytes b) s)) := by
  cases i with
  | connect | disconnect | pose | poseNorm | getState => exact .inl ⟨rfl, rfl⟩
  | crc16 bs start len =>
    cases h : crc16 bs start len <;> exact .inr (.inl ⟨_, by simp only [exec, execCrc16, h]; rfl⟩)
  | decodeStatus bs =>
    cases h : decodeStatus bs <;> exact .inr (.inl ⟨_, by simp only [exec, execDecodeStatus, h]; rfl⟩)
  | deactivateReq | activateReq | setposeReq | statuspollReq | readstateReq => exact .inr (.inr (.inl ⟨_, rfl, rfl⟩))
  | ackRsp | actCompleteRsp | actPendingRsp | stateRsp => exact .inr (.inr (.inr ⟨_, rfl, rfl⟩))
  | _ => exact .inr (.inl ⟨_, rfl⟩)

/-! ### The frames the block may write -/

/-- The set-pose frame that BUILD_SETPOSE makes is well formed and carries its own checksum (R121, R131). -/
theorem requestOk_setPose (p v f : Byte) : requestOk .setPose (Wire.setPose p v f) = true := by
  have hshape : (Wire.setPose p v f).length = 15 ∧ (Wire.setPose p v f).take 10 = Wire.setPosePrefix := ⟨rfl, rfl⟩
  have hfresh : Wire.fresh (Wire.setPose p v f) = true := decide_eq_true ⟨Nat.le_add_left 2 13, rfl⟩
  simp [requestOk, hshape, hfresh]

/-! ### How a locked operation begins -/

theorem connected_iff (f : Fsm) : connected f = true ↔ f = .ready := by simp [connected]

/-- What is common to the three operations that need the connection (R187): outside Ready they raise NotConnected, in Ready
they write one request that is none of the handshake's. -/
def BeginsQuery (c : Nat) (s t : State) : Prop :=
  (s.fsm ≠ .ready ∧ t = raise c .notConnected s) ∨
  (s.fsm = .ready ∧ ∃ x f w n, x.handshake = false ∧ requestOk x f = true ∧ t = send c x f (setWork w (setDraws n s)))

theorem poseBody_begins (p v f : BitVec 32) (c : Nat) (s : State) : BeginsQuery c s (poseBody p v f c s) := by
  by_cases h : s.fsm = .ready
  · exact .inr ⟨h, .setPose, _, _, s.draws, rfl, requestOk_setPose .., by
      rw [poseBody, if_pos ((connected_iff _).2 h)]; rfl⟩
  · exact .inl ⟨h, by rw [poseBody, if_neg (mt (connected_iff _).1 h)]⟩

theorem poseNormBody_begins (p v f : BitVec 64) (c : Nat) (s : State) : BeginsQuery c s (poseNormBody p v f c s) := by
  by_cases h : s.fsm = .ready
  · exact .inr ⟨h, .setPose, _, _, s.draws + 3, rfl, requestOk_setPose .., by
      rw [poseNormBody, if_pos ((connected_iff _).2 h)]; rfl⟩
  · exact .inl ⟨h, by rw [poseNormBody, if_neg (mt (connected_iff _).1 h)]⟩

theorem getStateBody_begins (c : Nat) (s : State) : BeginsQuery c s (getStateBody c s) := by
  by_cases h : s.fsm = .ready
  · exact .inr ⟨h, .readState, Wire.readState, s.work, s.draws, rfl, rfl, by
      rw [getStateBody, if_pos ((connected_iff _).2 h)]; rfl⟩
  · exact .inl ⟨h, by rw [getStateBody, if_neg (mt (connected_iff _).1 h)]⟩

/-- Everything the body of a locked operation can do before its first transport call returns: end at once, enter the open or
the close, or begin as a query (R151, R160, R180, R182, R185). -/
theorem bodyOf_cases {i : Instr} (hi : takesLock i = true) (c : Nat) (s : State) :
    (i = .connect ∧ s.fsm = .ready ∧ bodyOf i c s = complete c .unit s) ∨
    (i = .connect ∧ s.fsm ≠ .ready ∧ bodyOf i c s = setOpstep (.busy c .opening) (setFsm .connecting s)) ∨
    (i = .disconnect ∧ s.fsm = .disconnected ∧ bodyOf i c s = complete c .unit s) ∨
    (i = .disconnect ∧ s.fsm ≠ .disconnected ∧ bodyOf i c s = setOpstep (.busy c .closing) s) ∨
    (i ≠ .connect ∧ i ≠ .disconnect ∧ BeginsQuery c s (bodyOf i c s)) := by
  cases i with
  | connect =>
    by_cases h : s.fsm = .ready
    · exact .inl ⟨rfl, h, if_pos ((connected_iff _).2 h)⟩
    · exact .inr (.inl ⟨rfl, h, if_neg (mt (connected_iff _).1 h)⟩)
  | disconnect =>
    by_cases h : s.fsm = .disconnected
    · exact .inr (.inr (.inl ⟨rfl, h, if_pos h⟩))
    · exact .inr (.inr (.inr (.inl ⟨rfl, h, if_neg h⟩)))
  | pose p v f => exact .inr (.inr (.inr (.inr ⟨nofun, nofun, poseBody_begins p v f c s⟩)))
  | poseNorm p v f => exact .inr (.inr (.inr (.inr ⟨nofun, nofun, poseNormBody_begins p v f c s⟩)))
  | getState => exact .inr (.inr (.inr (.inr ⟨nofun, nofun, getStateBody_begins c s⟩)))
  | _ => cases hi

/-! ### The moves a step is made of -/

/-- What holds before each move of the block and is kept by it. -/
structure KeptByMoves (P : State → Prop) : Prop where
  inputs : ∀ l s, P s → P (setInputs l s)
  port : ∀ c s, P s → P (setPort c s)
  draws : ∀ n s, P s → P (setDraws n s)
  deliver : ∀ c r s, P s → P (deliver c r s)
  leave : ∀ k s, P s → P (setWaiters (s.waiters.eraseIdx k) s)
  join : ∀ i s, takesLock i = true → P s → P (setWaiters (s.waiters ++ [⟨s.port, i⟩]) s)
  start : ∀ i s, takesLock i = true → s.lock = .free → P s → P (bodyOf i s.port (setLock .held s))
  answer : ∀ a s, P s → P (answer a s)

theorem KeptByMoves.of_locked {P : State → Prop} (k : KeptByMoves P) {i : Instr} (hi : takesLock i = true) {s : State}
    (h : P s) : P (locked i (bodyOf i) s) := by
  cases hl : s.lock with
  | held => rw [locked_held hl]; exact k.join i s hi h
  | free =>
    rw [locked_free hl]
    exact runOn_keeps (fun s l => k.inputs l s) (fun s a => k.answer a s) _ _ (k.start i s hi hl h)

theorem KeptByMoves.of_exec {P : State → Prop} (k : KeptByMoves P) {i : Instr} {s t : State} (h : P s)
    (ht : exec i s = .next t) : P t := by
  rcases exec_cases i s with ⟨hi, he⟩ | ⟨r, he⟩ | ⟨f, -, he⟩ | ⟨b, -, he⟩ <;>
    obtain rfl := Host.Outcome.next.inj (he.symm.trans ht)
  · exact k.of_locked hi h
  · exact k.deliver _ _ _ h
  · rcases passes_cases f s with ⟨-, hp⟩ | hp <;> rw [hp]
    · exact k.answer _ _ h
    · exact h
  · exact k.answer _ _ h

/-- What every move keeps, every step keeps. -/
theorem KeptByMoves.of_step {P : State → Prop} (k : KeptByMoves P) {s t : State} (h : P s) (ht : step s = .next t) : P t := by
  have hin : ∀ l, P (setInputs l s) := fun l => k.inputs l s h
  rcases step_cases s with ⟨w, -, -, hs⟩ | ⟨-, hs⟩ | ⟨c, op, args, l, i, -, -, hs⟩ | ⟨c, op, args, l, -, hs⟩ |
    ⟨j, w, l, -, -, -, hs⟩ | ⟨j, l, -, hs⟩ | ⟨f, l, i, -, -, -, hs⟩ | ⟨b, l, i, -, -, hs⟩ | ⟨a, l, -, -, hs⟩ <;> rw [hs] at ht
  · exact k.of_exec (k.port _ _ (k.leave (drawnWaiter s) (setDraws (s.draws + 1) s) (k.draws _ _ h))) ht
  · cases ht; exact h
  · exact k.of_exec (k.port _ _ (hin l)) ht
  · cases ht; exact k.deliver _ _ _ (hin l)
  · exact k.of_exec (k.port _ _ (k.leave j (setInputs l s) (hin l))) ht
  · cases ht; exact hin l
  · exact k.of_exec (hin l) ht
  · exact k.of_exec (hin l) ht
  · cases ht; exact k.answer _ _ (hin l)

/-! ### The parameters -/

/-- `TP_PARAMS` and `TIMEOUT` have these values (R26). -/
def HasParams (p t : Nat) (s : State) : Prop := s.tpParams = p ∧ s.timeout = t

theorem BeginsQuery.hasParams {c p q : Nat} {s t : State} (hb : BeginsQuery c s t) (h : HasParams p q s) :
    HasParams p q t := by
  rcases hb with ⟨-, rfl⟩ | ⟨-, x, f, w, n, -, -, rfl⟩ <;> exact h

theorem bodyOf_hasParams {i : Instr} (hi : takesLock i = true) (c : Nat) {p q : Nat} {s : State} (h : HasParams p q s) :
    HasParams p q (bodyOf i c s) := by
  rcases bodyOf_cases hi c s with ⟨-, -, hb⟩ | ⟨-, -, hb⟩ | ⟨-, -, hb⟩ | ⟨-, -, hb⟩ | ⟨-, -, hb⟩
  · rw [hb]; exact h
  · rw [hb]; exact h
  · rw [hb]; exact h
  · rw [hb]; exact h
  · exact hb.hasParams h

theorem answer_hasParams (a : Input) {p q : Nat} {s : State} (h : HasParams p q s) : HasParams p q (answer a s) :=
  ⟨(answer_keeps a s).tpParams.trans h.1, (answer_keeps a s).timeout.trans h.2⟩

theorem hasParams_keptByMoves (p t : Nat) : KeptByMoves (HasParams p t) where
  inputs _ _ h := h
  port _ _ h := h
  draws _ _ h := h
  deliver _ _ _ h := h
  leave _ _ h := h
  join _ _ _ h := h
  start _ s hi _ h := bodyOf_hasParams hi _ (s := setLock .held s) h
  answer a _ h := answer_hasParams a h

/-- Settles O59: no move of a step writes the parameters. -/
theorem parametersAreNeverWritten : Obligations.ParametersAreNeverWritten := by
  unfold Obligations.ParametersAreNeverWritten
  intro s t ht
  exact (hasParams_keptByMoves s.tpParams s.timeout).of_step ⟨rfl, rfl⟩ ht

/-! ### Exchanges outside the handshake -/

/-- No locked operation runs, or one is inside an exchange that is none of the handshake's. -/
def OutsideHandshake : OpStep → Prop
  | .idle => True
  | .busy _ (.writing x) => x.handshake = false
  | .busy _ (.reading x) => x.handshake = false
  | .busy _ _ => False

/-- Outside the handshake with these values of `FSM` and `TP`: what the answers keep while a query runs. -/
def QueryAt (f : Fsm) (p : Tp) (s : State) : Prop := OutsideHandshake s.opstep ∧ s.fsm = f ∧ s.tp = p

theorem exchangeFails_of_not_handshake {x : Exch} (hx : x.handshake = false) (c : Nat) (e : Error) (s : State) :
    exchangeFails c x e s = raise c e (setSync .indeterminate s) := by
  cases x with
  | setPose => rfl
  | readState => rfl
  | _ => cases hx

/-- Outside the handshake a reply ends the operation, whatever it is (R180, R185). -/
theorem useReply_of_not_handshake {x : Exch} (hx : x.handshake = false) (c : Nat) (r : List Byte) (s : State) :
    (∃ v, useReply c x r s = complete c v s) ∨ ∃ e, useReply c x r s = raise c e s := by
  cases x with
  | setPose =>
    cases h : isAck r with
    | true => exact .inl ⟨.unit, by simp [useReply, h]⟩
    | false => exact .inr ⟨.sendRejected, by simp [useReply, h]⟩
  | readState =>
    cases h : decodeStatus r with
    | some st => exact .inl ⟨.status st, by simp [useReply, h]⟩
    | none => exact .inr ⟨.badLength, by simp [useReply, h]⟩
  | _ => cases hx

theorem useReply_queryAt {x : Exch} (hx : x.handshake = false) (c : Nat) (r : List Byte) {f : Fsm} {p : Tp} {s : State}
    (hf : s.fsm = f) (hp : s.tp = p) : QueryAt f p (useReply c x r s) := by
  rcases useReply_of_not_handshake hx c r s with ⟨v, h⟩ | ⟨e, h⟩ <;> rw [h] <;> exact ⟨trivial, hf, hp⟩

theorem exchangeFails_queryAt {x : Exch} (hx : x.handshake = false) (c : Nat) (e : Error) {f : Fsm} {p : Tp} {s : State}
    (hf : s.fsm = f) (hp : s.tp = p) : QueryAt f p (exchangeFails c x e s) := by
  rw [exchangeFails_of_not_handshake hx]
  exact ⟨trivial, hf, hp⟩

theorem answer_queryAt {f : Fsm} {p : Tp} {s : State} (h : QueryAt f p s) (a : Input) : QueryAt f p (answer a s) := by
  obtain ⟨hout, hf, hp⟩ := h
  have hat {c : Nat} {q : Pos} (ho : s.opstep = .busy c q) : OutsideHandshake (.busy c q) := ho ▸ hout
  rcases answer_cases a s with ⟨c, stale, ho, -, -⟩ | ⟨c, ho, -, -⟩ | ⟨c, x, g, ho, -, -, ha⟩ | ⟨c, x, g, ho, -, -, ha⟩ |
    ⟨c, x, b, ho, -, -, ha⟩ | ⟨c, x, r, e, ho, -, ha⟩ | ⟨c, e, ok, ho, -, -⟩ | ⟨c, ok, ho, -, -⟩ | ⟨b, -, ha⟩ | ha
  · exact (hat ho).elim
  · exact (hat ho).elim
  · have hx : OutsideHandshake (.busy c (.writing x)) := hat ho
    rw [ha]; exact ⟨hx, hf, hp⟩
  · rw [ha]; exact exchangeFails_queryAt (hat ho) _ _ hf hp
  · rw [ha]; exact useReply_queryAt (hat ho) _ _ hf hp
  · rw [ha]; exact exchangeFails_queryAt (hat ho) _ _ hf hp
  · exact (hat ho).elim
  · exact (hat ho).elim
  · rw [ha]; exact ⟨hout, hf, hp⟩
  · rw [ha]; exact ⟨hout, hf, hp⟩

theorem BeginsQuery.queryAt {c : Nat} {s t : State} (hb : BeginsQuery c s t) : QueryAt s.fsm s.tp t := by
  rcases hb with ⟨-, rfl⟩ | ⟨-, x, f, w, n, hx, -, rfl⟩
  · exact ⟨trivial, rfl, rfl⟩
  · exact ⟨hx, rfl, rfl⟩

/-- Of the locked operations only CONNECT and DISCONNECT can leave another `FSM` or `TP` (R163). -/
theorem locked_keeps_connection {i : Instr} (hi : takesLock i = true) (hc : i ≠ .connect) (hd : i ≠ .disconnect)
    (s : State) : (locked i (bodyOf i) s).fsm = s.fsm ∧ (locked i (bodyOf i) s).tp = s.tp := by
  cases hl : s.lock with
  | held => rw [locked_held hl]; exact ⟨rfl, rfl⟩
  | free =>
    have hbegins : BeginsQuery s.port (setLock .held s) (bodyOf i s.port (setLock .held s)) := by
      rcases bodyOf_cases hi s.port (setLock .held s) with ⟨h, -⟩ | ⟨h, -⟩ | ⟨h, -⟩ | ⟨h, -⟩ | ⟨-, -, h⟩
      · exact absurd h hc
      · exact absurd h hc
      · exact absurd h hd
      · exact absurd h hd
      · exact h
    rw [locked_free hl]
    exact (runOn_keeps (P := QueryAt s.fsm s.tp) (fun _ _ h => h) (fun _ a h => answer_queryAt h a) _ _
      hbegins.queryAt).2

/-- Settles O30: a query stays outside the handshake until it ends, and no other host operation runs on at all. -/
theorem onlyConnectAndDisconnectWriteFsm : Obligations.OnlyConnectAndDisconnectWriteFsm := by
  unfold Obligations.OnlyConnectAndDisconnectWriteFsm
  rintro i s t ⟨op, args, henc⟩ hc hd ht
  rcases exec_cases i s with ⟨hi, he⟩ | ⟨r, he⟩ | ⟨f, hf, -⟩ | ⟨b, hb, -⟩
  · obtain rfl := Host.Outcome.next.inj (he.symm.trans ht)
    exact locked_keeps_connection hi hc hd s
  · obtain rfl := Host.Outcome.next.inj (he.symm.trans ht)
    exact ⟨rfl, rfl⟩
  · cases henc.symm.trans hf
  · cases henc.symm.trans hb

/-! ### A POSE at its write -/

/-- Settles O40: with no answer there, POSE stops where `poseBody` leaves it. -/
theorem waitingPoseHoldsItsRegisters : Obligations.WaitingPoseHoldsItsRegisters := by
  unfold Obligations.WaitingPoseHoldsItsRegisters
  intro p v f s hl hf hin
  have hready : connected (setLock .held s).fsm = true := (connected_iff _).2 hf
  have hrun : exec (.pose p v f) s = .next (setInputs [] (poseBody p v f s.port (setLock .held s))) := by
    simp only [exec, execPose, locked_free hl, hin, runOn_nil]
  rw [hrun, poseBody, if_pos hready, ← hin]
  rfl

/-! ### Reset -/

/-- Settles O53: the fields of the construction and the frame ROM are literals (R27, R31). -/
theorem resetLeavesTheBlockDisconnected : Obligations.ResetLeavesTheBlockDisconnected := by
  unfold Obligations.ResetLeavesTheBlockDisconnected
  refine ⟨rfl, fun p t => ?_, rfl, rfl, rfl, rfl, rfl, rfl, rfl, rfl⟩
  simp [State.construct, Work.empty]

/-! ### The invariant, clause by clause -/

/-- Only locked operations wait (R55). -/
def OnlyLockedWait (s : State) : Prop := ∀ w ∈ s.waiters, takesLock w.op = true

/-- The observer's phase, `FSM` and `TP` between two operations: released and Disconnected, or held and Ready (R32). -/
def Settled (s : State) : Prop :=
  (phaseOf s.history = .closed ∧ s.fsm = .disconnected ∧ s.tp = .released) ∨
  (phaseOf s.history = .ready ∧ s.fsm = .ready ∧ s.tp = .held)

theorem consistent_iff (s : State) :
    Consistent s ↔ (s.lock = .free ↔ s.opstep = .idle) ∧ agrees (phaseOf s.history) s = true ∧
      (s.opstep = .idle → s.work = Work.empty) ∧ OnlyLockedWait s := by
  simp only [Consistent, consistent, OnlyLockedWait, Bool.and_eq_true, Bool.or_eq_true, decide_eq_true_eq, List.all_eq_true,
    and_assoc, ← imp_iff_not_or, ne_eq]

/-- Between two operations the invariant is R32. -/
theorem consistent_iff_of_idle {s : State} (h : s.opstep = .idle) :
    Consistent s ↔ s.lock = .free ∧ Settled s ∧ s.work = Work.empty ∧ OnlyLockedWait s := by
  simp [consistent_iff, h, agrees, Settled]

theorem consistent_iff_of_busy {s : State} {c : Nat} {p : Pos} (h : s.opstep = .busy c p) :
    Consistent s ↔ s.lock = .held ∧ agrees (phaseOf s.history) s = true ∧ OnlyLockedWait s := by
  cases hl : s.lock <;> simp [consistent_iff, h, hl]

theorem idle_of_free {s : State} (h : Consistent s) (hl : s.lock = .free) : s.opstep = .idle :=
  ((consistent_iff s).1 h).1.1 hl

theorem onlyLockedWait_of_consistent {s : State} (h : Consistent s) : OnlyLockedWait s := ((consistent_iff s).1 h).2.2.2

theorem settled_of_free {s : State} (h : Consistent s) (hl : s.lock = .free) : Settled s :=
  ((consistent_iff_of_idle (idle_of_free h hl)).1 h).2.1

/-- Settles O54: reset is settled in Disconnected with nobody waiting. -/
theorem resetIsConsistent : Obligations.ResetIsConsistent := by
  unfold Obligations.ResetIsConsistent
  have hsettled : Settled State.reset := .inl ⟨rfl, rfl, rfl⟩
  have hwait : OnlyLockedWait State.reset := fun _ hw => absurd hw List.not_mem_nil
  exact (consistent_iff_of_idle rfl).2 ⟨rfl, hsettled, rfl, hwait⟩

/-- Settles O56: a free lock means idle, and idle means settled with no working register. -/
theorem freeLockMeansQuietBlock : Obligations.FreeLockMeansQuietBlock := by
  unfold Obligations.FreeLockMeansQuietBlock
  intro s h hl
  have hidle := idle_of_free h hl
  obtain ⟨-, hsettled, hwork, -⟩ := (consistent_iff_of_idle hidle).1 h
  rcases hsettled with ⟨-, hf, ht⟩ | ⟨-, hf, ht⟩ <;> simp [hf, ht, hidle, hwork]

/-! ### What the observer makes of one more call -/

theorem phaseOf_append (h : List Event) (e : Event) : phaseOf (h ++ [e]) = watch (phaseOf h) e := by
  simp [phaseOf]

/-- The phase in which the write of an exchange is due. -/
def requestPhase (x : Exch) : Phase := if x.handshake then .due x else .ready

/-- The phase that a transport error inside an exchange leaves (R230, R232). -/
def errorPhase (x : Exch) : Phase := if x.handshake then .failing else .ready

/-- In Ready both kinds of request are allowed, and the observer tells them apart by their frames (R73, R75). -/
theorem watch_wrote {x : Exch} {f : List Byte} (h : requestOk x f = true) (ok : Bool) :
    watch (requestPhase x) (.wrote f ok) = afterWrite x ok := by
  cases x with
  | setPose => simp [requestPhase, Exch.handshake, watch, h]
  | readState =>
    have hf : f = Wire.readState := by simpa [requestOk] using h
    have hnot : requestOk .setPose f = false := by rw [hf]; rfl
    simp [requestPhase, Exch.handshake, watch, h, hnot]
  | _ => simp [requestPhase, Exch.handshake, watch, h]

theorem watch_didRead {x : Exch} {r : ReadEnd} (h : r.whole x.replyLen = true) (t : Nat) :
    watch (.owed x) (.didRead x.replyLen t r) = afterRead x r := by
  simp [watch, h]

/-! ### Inside an exchange -/

/-- A locked operation is inside an exchange and the observer is at a phase: what `Consistent` says there, less `OPSTEP`. -/
structure Inside (x : Exch) (p : Phase) (s : State) : Prop where
  lock : s.lock = .held
  tp : s.tp = .held
  fsm : s.fsm = x.fsm
  phase : phaseOf s.history = p
  waits : OnlyLockedWait s

theorem Inside.withSync {x : Exch} {p : Phase} {s : State} (h : Inside x p s) (y : Sync) : Inside x p (setSync y s) :=
  ⟨h.lock, h.tp, h.fsm, h.phase, h.waits⟩

theorem Inside.withRx {x : Exch} {p : Phase} {s : State} (h : Inside x p s) (b : List Byte) : Inside x p (setRx b s) :=
  ⟨h.lock, h.tp, h.fsm, h.phase, h.waits⟩

theorem Inside.withWork {x : Exch} {p : Phase} {s : State} (h : Inside x p s) (w : Work) : Inside x p (setWork w s) :=
  ⟨h.lock, h.tp, h.fsm, h.phase, h.waits⟩

/-- The handshake goes to its next exchange (R153, R154). -/
theorem Inside.nextExch {x : Exch} {p : Phase} {s : State} (h : Inside x p s) (y : Exch) : Inside y p (setFsm y.fsm s) :=
  ⟨h.lock, h.tp, rfl, h.phase, h.waits⟩

theorem Inside.record {x : Exch} {p : Phase} {s : State} (h : Inside x p s) (e : Event) : Inside x (watch p e) (emit e s) :=
  ⟨h.lock, h.tp, h.fsm, by rw [emit_history, phaseOf_append, h.phase], h.waits⟩

theorem inside_of_writing {s : State} {c : Nat} {x : Exch} {f : List Byte} (h : Consistent s)
    (ho : s.opstep = .busy c (.writing x)) (ht : s.work.txbuf = some f) :
    Inside x (requestPhase x) s ∧ requestOk x f = true := by
  obtain ⟨hl, hag, hw⟩ := (consistent_iff_of_busy ho).1 h
  simp only [agrees, ho, ht, Bool.and_eq_true, decide_eq_true_eq] at hag
  obtain ⟨⟨hphase, hfsm, htp⟩, hreq⟩ := hag
  exact ⟨⟨hl, htp, hfsm, hphase, hw⟩, hreq⟩

theorem inside_of_reading {s : State} {c : Nat} {x : Exch} (h : Consistent s) (ho : s.opstep = .busy c (.reading x)) :
    Inside x (.owed x) s := by
  obtain ⟨hl, hag, hw⟩ := (consistent_iff_of_busy ho).1 h
  simp only [agrees, ho, decide_eq_true_eq] at hag
  obtain ⟨hphase, hfsm, htp⟩ := hag
  exact ⟨hl, htp, hfsm, hphase, hw⟩

/-! ### The states that the shared operations end in -/

theorem consistent_raise {s : State} (hs : Settled s) (hw : OnlyLockedWait s) (c : Nat) (e : Error) :
    Consistent (raise c e s) :=
  (consistent_iff_of_idle rfl).2 ⟨rfl, hs, rfl, hw⟩

theorem consistent_complete {s : State} (hs : Settled s) (hw : OnlyLockedWait s) (c : Nat) (v : Value) :
    Consistent (complete c v s) :=
  (consistent_iff_of_idle rfl).2 ⟨rfl, hs, rfl, hw⟩

theorem Inside.consistent_failHandshake {x : Exch} {s : State} (h : Inside x .failing s) (c : Nat) (e : Error) :
    Consistent (failHandshake c e s) :=
  (consistent_iff_of_busy rfl).2 ⟨h.lock, by simp [agrees, h.phase, h.tp], h.waits⟩

theorem Inside.consistent_send {x : Exch} {f : List Byte} {s : State} (h : Inside x (requestPhase x) s)
    (hf : requestOk x f = true) (c : Nat) : Consistent (send c x f s) :=
  (consistent_iff_of_busy rfl).2 ⟨h.lock, by simp [agrees, h.phase, h.tp, h.fsm, hf, requestPhase], h.waits⟩

/-- In Ready, an exchange that is over leaves the block settled. -/
theorem Inside.settled {x : Exch} {s : State} (h : Inside x .ready s) (hx : x.fsm = .ready) : Settled s :=
  .inr ⟨h.phase, h.fsm.trans hx, h.tp⟩

/-! ### Every answer keeps the invariant -/

theorem consistent_openSucceeds {s : State} {c : Nat} (h : Consistent s) (ho : s.opstep = .busy c .opening)
    (stale : List Byte) : Consistent (openSucceeds c stale s) := by
  obtain ⟨hl, hag, hw⟩ := (consistent_iff_of_busy ho).1 h
  simp only [agrees, ho, decide_eq_true_eq] at hag
  have hdue : phaseOf (s.history ++ [.opened s.tpParams true]) = .due .deactivate := by
    rw [phaseOf_append, hag.1]; rfl
  have hin : Inside .deactivate (.due .deactivate)
      (setRx stale (setFsm .deactivating (setSync .insync (setTp .held (emit (.opened s.tpParams true) s))))) :=
    ⟨hl, rfl, rfl, hdue, hw⟩
  exact hin.consistent_send rfl c

theorem consistent_openFails {s : State} {c : Nat} (h : Consistent s) (ho : s.opstep = .busy c .opening) :
    Consistent (openFails c s) := by
  obtain ⟨-, hag, hw⟩ := (consistent_iff_of_busy ho).1 h
  simp only [agrees, ho, decide_eq_true_eq] at hag
  obtain ⟨hphase, -, htp⟩ := hag
  have hclosed : phaseOf (s.history ++ [.opened s.tpParams false]) = .closed := by rw [phaseOf_append, hphase]; rfl
  have hsettled : Settled (setSync .insync (setFsm .disconnected (emit (.opened s.tpParams false) s))) :=
    .inl ⟨hclosed, rfl, htp⟩
  exact consistent_raise hsettled hw c _

theorem consistent_writeSucceeds {s : State} {c : Nat} {x : Exch} {f : List Byte} (h : Consistent s)
    (ho : s.opstep = .busy c (.writing x)) (ht : s.work.txbuf = some f) : Consistent (writeSucceeds c x f s) := by
  obtain ⟨hin, hreq⟩ := inside_of_writing h ho ht
  have hread := hin.record (.wrote f true)
  rw [watch_wrote hreq] at hread
  exact (consistent_iff_of_busy rfl).2
    ⟨hread.lock, decide_eq_true ⟨hread.phase, hread.fsm, hread.tp⟩, hread.waits⟩

/-- A transport error ends the handshake in its failure exit and a query in Ready (R230, R232). -/
theorem Inside.consistent_exchangeFails {x : Exch} {s : State} (h : Inside x (errorPhase x) s) (c : Nat) (e : Error) :
    Consistent (exchangeFails c x e s) := by
  have hsync := h.withSync .indeterminate
  cases x with
  | deactivate | activate | poll => exact hsync.consistent_failHandshake c e
  | setPose | readState => exact consistent_raise (hsync.settled rfl) hsync.waits c e

theorem consistent_writeFails {s : State} {c : Nat} {x : Exch} {f : List Byte} (h : Consistent s)
    (ho : s.opstep = .busy c (.writing x)) (ht : s.work.txbuf = some f) : Consistent (writeFails c x f s) := by
  obtain ⟨hin, hreq⟩ := inside_of_writing h ho ht
  have hfailed := hin.record (.wrote f false)
  rw [watch_wrote hreq] at hfailed
  exact hfailed.consistent_exchangeFails c .writeFailed

theorem afterRead_of_not_bytes {r : ReadEnd} (hr : ∀ b, r ≠ .bytes b) (x : Exch) : afterRead x r = errorPhase x := by
  cases r with
  | bytes b => exact absurd rfl (hr b)
  | timeout | endOfStream => cases x <;> rfl

theorem consistent_readFails {s : State} {c : Nat} {x : Exch} (h : Consistent s) (ho : s.opstep = .busy c (.reading x))
    {r : ReadEnd} (hr : ∀ b, r ≠ .bytes b) (e : Error) : Consistent (readFails c x r e s) := by
  have hwhole : r.whole x.replyLen = true := by
    cases r with
    | bytes b => exact absurd rfl (hr b)
    | timeout | endOfStream => rfl
  have hfailed := (inside_of_reading h ho).record (.didRead x.replyLen s.timeout r)
  rw [watch_didRead hwhole, afterRead_of_not_bytes hr] at hfailed
  exact (hfailed.withRx _).consistent_exchangeFails c e

/-- The observer reads the replies with the recognisers of the block (R126 to R128). -/
theorem afterRead_deactivate (r : List Byte) :
    afterRead .deactivate (.bytes r) = if isAck r then .due .activate else .failing := by simp [afterRead, isAck]

theorem afterRead_activate (r : List Byte) :
    afterRead .activate (.bytes r) = if isAck r then .due .poll else .failing := by simp [afterRead, isAck]

theorem afterRead_poll (r : List Byte) :
    afterRead .poll (.bytes r) = if isActComplete r then .ready else if isActPending r then .due .poll else .failing := by
  simp [afterRead, isActComplete, isActPending]

/-- The operation and the observer make the same of every reply (R153 to R158, R188, R189). -/
theorem Inside.consistent_useReply {x : Exch} {r : List Byte} {s : State} (h : Inside x (afterRead x (.bytes r)) s)
    (c : Nat) : Consistent (useReply c x r s) := by
  have fails (e : Error) (hp : afterRead x (.bytes r) = .failing) : Consistent (failHandshake c e s) :=
    Inside.consistent_failHandshake (hp ▸ h) c e
  rcases useReply_cases c x r s with ⟨rfl, hr, hu⟩ | ⟨rfl, hr, hu⟩ | ⟨rfl, hr, hu⟩ | ⟨rfl, hr, hr', hu⟩ | ⟨rfl, hr, hu⟩ |
    ⟨rfl, hr, hu⟩ | ⟨rfl, hr, hr', hu⟩ | ⟨rfl, hr, hu⟩ | ⟨rfl, hr, hu⟩ | ⟨st, rfl, hr, hu⟩ | ⟨rfl, hr, hu⟩ <;> rw [hu]
  · rw [afterRead_deactivate, if_pos hr] at h
    exact (h.nextExch .activate).consistent_send rfl c
  · rw [afterRead_activate, if_pos hr] at h
    exact (h.nextExch .poll).consistent_send rfl c
  · rw [afterRead_poll, if_pos hr] at h
    have hready : Settled (setFsm .ready s) := .inr ⟨h.phase, rfl, h.tp⟩
    exact consistent_complete hready h.waits c _
  · rw [afterRead_poll, hr, hr'] at h
    exact h.consistent_send rfl c
  · exact fails _ (by simp [afterRead_deactivate, hr])
  · exact fails _ (by simp [afterRead_activate, hr])
  · exact fails _ (by simp [afterRead_poll, hr, hr'])
  · exact consistent_complete (h.settled rfl) h.waits c _
  · exact consistent_raise (h.settled rfl) h.waits c _
  · exact consistent_complete (h.settled rfl) h.waits c _
  · exact consistent_raise (h.settled rfl) h.waits c _

/-- A read gives exactly the bytes its request fixes, and the operation goes on with them (R44, R83). -/
theorem consistent_readSucceeds {s : State} {c : Nat} {x : Exch} (h : Consistent s) (ho : s.opstep = .busy c (.reading x))
    (hn : x.replyLen ≤ s.rx.length) : Consistent (readSucceeds c x s) := by
  have hwhole : (ReadEnd.bytes (s.rx.take x.replyLen)).whole x.replyLen = true := by simp [ReadEnd.whole, hn]
  have hread := (inside_of_reading h ho).record (.didRead x.replyLen s.timeout (.bytes (s.rx.take x.replyLen)))
  rw [watch_didRead hwhole] at hread
  exact ((hread.withRx _).withWork _).consistent_useReply c

theorem consistent_failureCloses {s : State} {c : Nat} {e : Error} (h : Consistent s)
    (ho : s.opstep = .busy c (.failing e)) (ok : Bool) : Consistent (failureCloses c e ok s) := by
  obtain ⟨-, hag, hw⟩ := (consistent_iff_of_busy ho).1 h
  simp only [agrees, ho, decide_eq_true_eq] at hag
  have hclosed : phaseOf (s.history ++ [.closed ok]) = .closed := by rw [phaseOf_append, hag.1]; rfl
  have hsettled : Settled (setSync .insync (setFsm .disconnected (setTp .released (emit (.closed ok) s)))) :=
    .inl ⟨hclosed, rfl, rfl⟩
  exact consistent_raise hsettled hw c e

theorem consistent_disconnectCloses {s : State} {c : Nat} (h : Consistent s) (ho : s.opstep = .busy c .closing)
    (ok : Bool) : Consistent (disconnectCloses c ok s) := by
  obtain ⟨-, hag, hw⟩ := (consistent_iff_of_busy ho).1 h
  simp only [agrees, ho, decide_eq_true_eq] at hag
  have hclosed : phaseOf (s.history ++ [.closed ok]) = .closed := by rw [phaseOf_append, hag.1]; rfl
  have hsettled : Settled (setFsm .disconnected (setTp .released (emit (.closed ok) s))) := .inl ⟨hclosed, rfl, rfl⟩
  exact consistent_complete hsettled hw c _

/-- The invariant does not look at RX. -/
theorem consistent_setRx {s : State} (h : Consistent s) (b : List Byte) : Consistent (setRx b s) := h

theorem consistent_answer {s : State} (h : Consistent s) (a : Input) : Consistent (answer a s) := by
  rcases answer_cases a s with ⟨c, stale, ho, -, ha⟩ | ⟨c, ho, -, ha⟩ | ⟨c, x, f, ho, ht, -, ha⟩ | ⟨c, x, f, ho, ht, -, ha⟩ |
    ⟨c, x, b, ho, hn, -, ha⟩ | ⟨c, x, r, e, ho, hr, ha⟩ | ⟨c, e, ok, ho, -, ha⟩ | ⟨c, ok, ho, -, ha⟩ | ⟨b, -, ha⟩ | ha <;>
    rw [ha]
  · exact consistent_openSucceeds h ho stale
  · exact consistent_openFails h ho
  · exact consistent_writeSucceeds h ho ht
  · exact consistent_writeFails h ho ht
  · exact consistent_readSucceeds (consistent_setRx h _) ho hn
  · have hnot : ∀ b, r ≠ .bytes b := by rcases hr with ⟨-, rfl, -⟩ | ⟨-, rfl, -⟩ <;> exact nofun
    exact consistent_readFails h ho hnot e
  · exact consistent_failureCloses h ho ok
  · exact consistent_disconnectCloses h ho ok
  · exact consistent_setRx h _
  · exact h

/-! ### Every move keeps the invariant -/

theorem consistent_setWaiters {s : State} (h : Consistent s) {l : List Waiter} (hl : ∀ w ∈ l, takesLock w.op = true) :
    Consistent (setWaiters l s) := by
  obtain ⟨hlock, hag, hwork, -⟩ := (consistent_iff s).1 h
  exact (consistent_iff _).2 ⟨hlock, hag, hwork, hl⟩

theorem BeginsQuery.consistent {c : Nat} {s t : State} (hb : BeginsQuery c s t) (hl : s.lock = .held) (hs : Settled s)
    (hw : OnlyLockedWait s) : Consistent t := by
  rcases hb with ⟨-, rfl⟩ | ⟨hf, x, f, w, n, hx, hreq, rfl⟩
  · exact consistent_raise hs hw c _
  · rcases hs with ⟨-, hd, -⟩ | ⟨hphase, -, htp⟩
    · cases hd.symm.trans hf
    · have hfsm : s.fsm = x.fsm := by cases x with
        | setPose | readState => exact hf
        | deactivate | activate | poll => cases hx
      have hin : Inside x (requestPhase x) (setWork w (setDraws n s)) :=
        ⟨hl, htp, hfsm, by simpa [requestPhase, hx] using hphase, hw⟩
      exact hin.consistent_send hreq c

/-- A locked operation begins in Disconnected or Ready, and ends there at once or makes the call that is allowed there. -/
theorem consistent_bodyOf {i : Instr} (hi : takesLock i = true) (c : Nat) {s : State} (hl : s.lock = .held)
    (hs : Settled s) (hw : OnlyLockedWait s) : Consistent (bodyOf i c s) := by
  rcases bodyOf_cases hi c s with ⟨-, -, hb⟩ | ⟨-, hf, hb⟩ | ⟨-, -, hb⟩ | ⟨-, hf, hb⟩ | ⟨-, -, hb⟩
  · rw [hb]; exact consistent_complete hs hw c _
  · obtain ⟨hphase, -, htp⟩ := hs.resolve_right fun h => hf h.2.1
    rw [hb]
    exact (consistent_iff_of_busy rfl).2 ⟨hl, decide_eq_true ⟨hphase, rfl, htp⟩, hw⟩
  · rw [hb]; exact consistent_complete hs hw c _
  · have hready := hs.resolve_left fun h => hf h.2.1
    rw [hb]
    exact (consistent_iff_of_busy rfl).2 ⟨hl, decide_eq_true hready, hw⟩
  · exact hb.consistent hl hs hw

theorem consistent_keptByMoves : KeptByMoves Consistent where
  inputs _ _ h := h
  port _ _ h := h
  draws _ _ h := h
  deliver _ _ _ h := h
  leave _ _ h := consistent_setWaiters h fun w hw => onlyLockedWait_of_consistent h w (List.mem_of_mem_eraseIdx hw)
  join i s hi h := consistent_setWaiters h fun w hw => by
    rcases List.mem_append.1 hw with hold | hnew
    · exact onlyLockedWait_of_consistent h w hold
    · rw [List.mem_singleton.1 hnew]; exact hi
  start i s hi hl h := by
    have hs : Settled (setLock .held s) := settled_of_free (s := s) h hl
    have hw : OnlyLockedWait (setLock .held s) := onlyLockedWait_of_consistent (s := s) h
    exact consistent_bodyOf hi s.port rfl hs hw
  answer a _ h := consistent_answer h a

/-- Settles O55: every move a step is made of keeps the invariant. -/
theorem stepKeepsConsistent : Obligations.StepKeepsConsistent := by
  unfold Obligations.StepKeepsConsistent
  intro s t h ht
  exact consistent_keptByMoves.of_step h ht

end Sys2Proof.Proofs
end

section
/-! The records of the block: the event history and the results only grow, and in every consistent state each successful write on
record is followed by its read (20_memory.md R54, R57, R83; 60_exceptions.md R236). -/

namespace Sys2Proof.Proofs

open Sys2Proof.Machine

/-! ### Records that grow -/

/-- The history begins with `h` and the results with `r`. -/
def RecordsFrom (h : List Event) (r : List Return) (s : State) : Prop := h <+: s.history ∧ r <+: s.results

section
variable {h : List Event} {r : List Return} {s : State}

theorem RecordsFrom.emit (k : RecordsFrom h r s) (e : Event) : RecordsFrom h r (emit e s) :=
  ⟨k.1.trans (List.prefix_append ..), k.2⟩

theorem RecordsFrom.deliver (k : RecordsFrom h r s) (c : Nat) (res : Result) : RecordsFrom h r (deliver c res s) :=
  ⟨k.1, k.2.trans (List.prefix_append ..)⟩

theorem RecordsFrom.complete (k : RecordsFrom h r s) (c : Nat) (v : Value) : RecordsFrom h r (complete c v s) :=
  RecordsFrom.deliver (s := release s) k c (.ok v)

theorem RecordsFrom.raise (k : RecordsFrom h r s) (c : Nat) (e : Error) : RecordsFrom h r (raise c e s) :=
  RecordsFrom.deliver (s := release s) k c (.err e)

theorem RecordsFrom.exchangeFails (k : RecordsFrom h r s) (c : Nat) (x : Exch) (e : Error) :
    RecordsFrom h r (exchangeFails c x e s) := by
  rcases exchangeFails_eq c x e s with hf | hf <;> rw [hf]
  · exact k
  · exact RecordsFrom.raise (s := setSync .indeterminate s) k c e

/-- A reply leads on, to the failure exit, or to the end of the operation; only the end delivers something. -/
theorem RecordsFrom.useReply (k : RecordsFrom h r s) (c : Nat) (x : Exch) (b : List Byte) :
    RecordsFrom h r (useReply c x b s) := by
  rcases useReply_cases c x b s with ⟨-, -, hu⟩ | ⟨-, -, hu⟩ | ⟨-, -, hu⟩ | ⟨-, -, -, hu⟩ | ⟨-, -, hu⟩ | ⟨-, -, hu⟩ |
    ⟨-, -, -, hu⟩ | ⟨-, -, hu⟩ | ⟨-, -, hu⟩ | ⟨st, -, -, hu⟩ | ⟨-, -, hu⟩ <;> rw [hu]
  · exact k
  · exact k
  · exact RecordsFrom.complete (s := setFsm .ready s) k c .unit
  · exact k
  · exact k
  · exact k
  · exact k
  · exact k.complete c .unit
  · exact k.raise c .sendRejected
  · exact k.complete c (.status st)
  · exact k.raise c .badLength

/-- Every return of a transport call is put on record before the operation goes on or ends. -/
theorem RecordsFrom.answer (k : RecordsFrom h r s) (a : Input) : RecordsFrom h r (answer a s) := by
  rcases answer_cases a s with ⟨c, stale, -, -, ha⟩ | ⟨c, -, -, ha⟩ | ⟨c, x, f, -, -, -, ha⟩ | ⟨c, x, f, -, -, -, ha⟩ |
    ⟨c, x, b, -, -, -, ha⟩ | ⟨c, x, res, e, -, -, ha⟩ | ⟨c, e, ok, -, -, ha⟩ | ⟨c, ok, -, -, ha⟩ | ⟨b, -, ha⟩ | ha <;> rw [ha]
  · exact k.emit (.opened s.tpParams true)
  · refine RecordsFrom.raise ?_ c .connectionRefused
    exact k.emit (.opened s.tpParams false)
  · exact k.emit (.wrote f true)
  · exact (k.emit (.wrote f false)).exchangeFails c x .writeFailed
  · refine RecordsFrom.useReply ?_ c x _
    exact k.emit (.didRead x.replyLen s.timeout (.bytes ((s.rx ++ b).take x.replyLen)))
  · refine RecordsFrom.exchangeFails ?_ c x e
    exact k.emit (.didRead x.replyLen s.timeout res)
  · refine RecordsFrom.raise ?_ c e
    exact k.emit (.closed ok)
  · refine RecordsFrom.complete ?_ c .unit
    exact k.emit (.closed ok)
  · exact k
  · exact k

theorem BeginsQuery.recordsFrom {c : Nat} {t : State} (hb : BeginsQuery c s t) (k : RecordsFrom h r s) :
    RecordsFrom h r t := by
  rcases hb with ⟨-, rfl⟩ | ⟨-, x, f, w, n, -, -, rfl⟩
  · exact k.raise c .notConnected
  · exact k

theorem bodyOf_recordsFrom {i : Instr} (hi : takesLock i = true) (c : Nat) (k : RecordsFrom h r s) :
    RecordsFrom h r (bodyOf i c s) := by
  rcases bodyOf_cases hi c s with ⟨-, -, hb⟩ | ⟨-, -, hb⟩ | ⟨-, -, hb⟩ | ⟨-, -, hb⟩ | ⟨-, -, hb⟩
  · rw [hb]; exact k.complete c .unit
  · rw [hb]; exact k
  · rw [hb]; exact k.complete c .unit
  · rw [hb]; exact k
  · exact hb.recordsFrom k

end

/-- Whatever the two records begin with, no move takes it back. -/
theorem recordsFrom_keptByMoves (h : List Event) (r : List Return) : KeptByMoves (RecordsFrom h r) where
  inputs _ _ k := k
  port _ _ k := k
  draws _ _ k := k
  deliver c res _ k := k.deliver c res
  leave _ _ k := k
  join _ _ _ k := k
  start _ s hi _ k := bodyOf_recordsFrom hi s.port (s := setLock .held s) k
  answer a _ k := k.answer a

/-- Settles O60: every move a step is made of only appends to the two records. -/
theorem recordsOnlyGrow : Obligations.RecordsOnlyGrow := by
  unfold Obligations.RecordsOnlyGrow
  intro s t ht
  obtain ⟨⟨h, hh⟩, ⟨r, hr⟩⟩ :=
    (recordsFrom_keptByMoves s.history s.results).of_step ⟨List.prefix_rfl, List.prefix_rfl⟩ ht
  exact ⟨⟨h, hh.symm⟩, r, hr.symm⟩

/-! ### A history the observer allows -/

/-- What the rules do not allow, no later call makes good. -/
theorem foldl_watch_illegal (l : List Event) : l.foldl watch .illegal = .illegal := by
  induction l with
  | nil => rfl
  | cons e l ih => exact ih

theorem phaseOf_prefix_ne_illegal {h l : List Event} (hl : phaseOf (h ++ l) ≠ .illegal) : phaseOf h ≠ .illegal := by
  intro hill
  apply hl
  calc phaseOf (h ++ l) = l.foldl watch (phaseOf h) := List.foldl_append
    _ = .illegal := by rw [hill, foldl_watch_illegal]

/-- No position of the block agrees with a history that the rules do not allow. -/
theorem agrees_illegal (s : State) : agrees .illegal s = false := by
  cases ho : s.opstep with
  | idle => simp [agrees, ho]
  | busy c p =>
    cases p with
    | writing x => cases hx : x.handshake <;> simp [agrees, ho, hx]
    | _ => simp [agrees, ho]

theorem phaseOf_history_ne_illegal {s : State} (h : Consistent s) : phaseOf s.history ≠ .illegal := by
  obtain ⟨-, hag, -⟩ := (consistent_iff s).1 h
  intro hill
  rw [hill, agrees_illegal] at hag
  cases hag

/-! ### A write and the call after it -/

/-- A successful write that the rules allow is the request of some exchange, whose read is then owed. -/
theorem owed_of_watch_wrote {p : Phase} {f : List Byte} (h : watch p (.wrote f true) ≠ .illegal) :
    ∃ x, requestOk x f = true ∧ watch p (.wrote f true) = .owed x := by
  cases p with
  | due x =>
    cases hx : requestOk x f with
    | true => exact ⟨x, hx, by simp [watch, hx, afterWrite]⟩
    | false => exact absurd (by simp [watch, hx]) h
  | ready =>
    cases hp : requestOk .setPose f with
    | true => exact ⟨.setPose, hp, by simp [watch, hp, afterWrite]⟩
    | false =>
      cases hr : requestOk .readState f with
      | true => exact ⟨.readState, hr, by simp [watch, hp, hr, afterWrite]⟩
      | false => exact absurd (by simp [watch, hp, hr]) h
  | _ => exact absurd rfl h

/-- While a read is owed, only that read is allowed (R54, R57). -/
theorem didRead_of_watch_owed {x : Exch} {e : Event} (h : watch (.owed x) e ≠ .illegal) :
    ∃ t r, e = .didRead x.replyLen t r := by
  cases e with
  | didRead n t r =>
    by_cases hn : n = x.replyLen ∧ r.whole n = true
    · exact ⟨t, r, by rw [hn.1]⟩
    · exact absurd (if_neg hn) h
  | _ => exact absurd rfl h

/-- The request fixes how many bytes its reply has (R83); a set-pose frame is told from the two polls by its length. -/
theorem replyLen_of_requestOk {x : Exch} {f : List Byte} (h : requestOk x f = true) :
    x.replyLen = if f = Wire.statusPoll then 7 else if f = Wire.readState then 11 else 8 := by
  cases x with
  | setPose =>
    simp only [requestOk, Bool.and_eq_true, decide_eq_true_eq] at h
    obtain ⟨⟨hlen, -⟩, -⟩ := h
    have hpoll : f ≠ Wire.statusPoll := by rintro rfl; cases hlen
    have hread : f ≠ Wire.readState := by rintro rfl; cases hlen
    rw [if_neg hpoll, if_neg hread]; rfl
  | _ =>
    obtain rfl := of_decide_eq_true h
    rfl

/-- Settles O58: the observer never reaches `illegal`, so after the write it owes a read and the next call is that read. -/
theorem everyWriteIsFollowedByItsRead : Obligations.EveryWriteIsFollowedByItsRead := by
  unfold Obligations.EveryWriteIsFollowedByItsRead
  intro s f e pre post hs hh
  have hread : phaseOf (pre ++ [.wrote f true] ++ [e]) ≠ .illegal := by
    apply phaseOf_prefix_ne_illegal (l := post)
    simpa [hh] using phaseOf_history_ne_illegal hs
  have hwrote := phaseOf_prefix_ne_illegal hread
  rw [phaseOf_append] at hwrote
  obtain ⟨x, hreq, howed⟩ := owed_of_watch_wrote hwrote
  rw [phaseOf_append, phaseOf_append, howed] at hread
  obtain ⟨t, r, he⟩ := didRead_of_watch_owed hread
  exact ⟨x.replyLen, t, r, he, replyLen_of_requestOk hreq⟩

end Sys2Proof.Proofs
end

section
/-! Exchanges over the transport: how a write and a read of one exchange end, well or in an error, inside the handshake and in
Ready (20_memory.md R43, R44, R57, R60, R83; 42_activation_fsm.md R158; 60_exceptions.md R230, R232), and waiting for the lock
(R55). -/

namespace Sys2Proof.Proofs

open Sys2Proof.Machine

/-! ### The lock -/

theorem exec_of_takesLock {i : Instr} (hi : takesLock i = true) (s : State) :
    exec i s = .next (locked i (bodyOf i) s) := by
  cases i with
  | connect | disconnect | pose | poseNorm | getState => rfl
  | _ => cases hi

/-- Settles O31: a locked operation that finds the lock held only joins the wait set. -/
theorem lockedOperationsWait : Obligations.LockedOperationsWait := by
  unfold Obligations.LockedOperationsWait
  intro i s hi hl
  rw [exec_of_takesLock hi, locked_held hl]
  rfl

/-! ### Request frames -/

theorem passes_of_writing {s : State} {c : Nat} {x : Exch} {f : List Byte} (ho : s.opstep = .busy c (.writing x))
    (ht : s.work.txbuf = some f) : passes f s = writeSucceeds c x f s := by
  have hdue : dueFrame s = some f := by simp [dueFrame, ho, ht]
  rw [passes, if_pos hdue, answer_writing_ok ho ht]

/-- Settles O46: each request frame passes as the return of the write that has it due. -/
theorem requestFramesAreHandedOver : Obligations.RequestFramesAreHandedOver := by
  unfold Obligations.RequestFramesAreHandedOver
  intro c x s ho
  have handed {f : List Byte} (ht : s.work.txbuf = some f) :
      (Host.Outcome.next (passes f s) : Host.Outcome State Fault Refusal) = .next (writeSucceeds c x f s) :=
    congrArg _ (passes_of_writing ho ht)
  exact ⟨handed, handed, fun _ _ _ _ _ => handed, handed, handed⟩

/-! ### Reads -/

/-- The operation does not touch RX or the history when it looks at a reply: the read has done that already. -/
theorem useReply_stream (c : Nat) (x : Exch) (r : List Byte) (s : State) :
    (useReply c x r s).rx = s.rx ∧ (useReply c x r s).history = s.history := by
  rcases useReply_cases c x r s with ⟨-, -, h⟩ | ⟨-, -, h⟩ | ⟨-, -, h⟩ | ⟨-, -, -, h⟩ | ⟨-, -, h⟩ | ⟨-, -, h⟩ |
    ⟨-, -, -, h⟩ | ⟨-, -, h⟩ | ⟨-, -, h⟩ | ⟨_, -, -, h⟩ | ⟨-, -, h⟩ <;> rw [h] <;> exact ⟨rfl, rfl⟩

theorem readSucceeds_stream (c : Nat) (x : Exch) (s : State) :
    (readSucceeds c x s).rx = s.rx.drop x.replyLen ∧
      (readSucceeds c x s).history = s.history ++ [.didRead x.replyLen s.timeout (.bytes (s.rx.take x.replyLen))] :=
  useReply_stream ..

/-- Settles O52: either RX holds enough for the read, which takes the oldest bytes, or they all wait. -/
theorem readsTakeTheOldestBytes : Obligations.ReadsTakeTheOldestBytes := by
  unfold Obligations.ReadsTakeTheOldestBytes
  intro c x b s ho
  rw [answer_reading_bytes ho]
  constructor
  · intro henough
    rw [readArrives, if_pos henough]
    exact readSucceeds_stream c x (setRx (s.rx ++ b) s)
  · intro hfew
    rw [readArrives, if_neg (Nat.not_le.2 hfew)]
    rfl

/-! ### A transport error in the handshake -/

theorem exchangeFails_of_handshake {x : Exch} (hx : x.handshake = true) (c : Nat) (e : Error) (s : State) :
    exchangeFails c x e s = failHandshake c e (setSync .indeterminate s) := by
  cases x with
  | deactivate | activate | poll => rfl
  | setPose | readState => cases hx

/-- An answer that is neither a frame's write nor bytes needs no decoding: while the lock is held a step is that answer. -/
theorem step_answer {s : State} {a : Input} {l : List Input} (hl : s.lock = .held) (h : s.inputs = a :: l)
    (ha : a.isAnswer = true) (hw : a ≠ .writeOk) (hb : ∀ b, a ≠ .bytes b) : step s = .next (answer a (setInputs l s)) := by
  have hf : fetch s = fetchInput s := fetch_input (handsOver_held hl)
  cases a with
  | command c op args => cases ha
  | grant k => cases ha
  | writeOk => exact absurd rfl hw
  | bytes b => exact absurd rfl (hb b)
  | _ => simp [step, hf, fetchInput, h]

/-- The failure exit of CONNECT in two steps: Faulted with the transport held, then the close (R158, R230). -/
theorem run_failHandshake {s u : State} {c : Nat} {e : Error} {ok : Bool} {rest : List Input}
    (hs : step s = .next (failHandshake c e (setSync .indeterminate u))) (htp : u.tp = .held) (hl : u.lock = .held)
    (hin : u.inputs = .closed ok :: rest) :
    (∃ t, step s = .next t ∧ t.fsm = .faulted ∧ t.tp = .held ∧ t.sync = .indeterminate) ∧
      Sys2Proof.core.run 2 s =
        .next (failureCloses c e ok (setInputs rest (failHandshake c e (setSync .indeterminate u)))) := by
  refine ⟨⟨_, hs, rfl, htp, rfl⟩, ?_⟩
  have hclose := step_answer (s := failHandshake c e (setSync .indeterminate u)) hl hin rfl nofun nofun
  rw [answer_failing_closed (c := c) (e := e) rfl] at hclose
  simp only [Host.Core.run, core, hs, hclose]

/-- A write of the handshake fails: no read follows (R43). -/
theorem step_writeFailed_of_handshake {x : Exch} (hx : x.handshake = true) {s : State} {c : Nat} {f : List Byte}
    {l : List Input} (hl : s.lock = .held) (ho : s.opstep = .busy c (.writing x)) (ht : s.work.txbuf = some f)
    (h : s.inputs = .writeFailed :: l) :
    step s = .next (failHandshake c .writeFailed (setSync .indeterminate (emit (.wrote f false) (setInputs l s)))) := by
  rw [step_answer hl h rfl nofun nofun, answer_writing_failed (s := setInputs l s) ho ht, writeFails,
    exchangeFails_of_handshake hx]

/-- The two ways a read fails: the answer, what is on record for it and the error it raises (R44). -/
def ReadError (a : Input) (r : ReadEnd) (e : Error) : Prop :=
  (a = .timeout ∧ r = .timeout ∧ e = .timeout) ∨ (a = .endOfStream ∧ r = .endOfStream ∧ e = .endOfStream)

theorem ReadError.answer {a : Input} {r : ReadEnd} {e : Error} (h : ReadError a r e) {s : State} {c : Nat} {x : Exch}
    (ho : s.opstep = .busy c (.reading x)) : answer a s = readFails c x r e s := by
  rcases h with ⟨rfl, rfl, rfl⟩ | ⟨rfl, rfl, rfl⟩
  · exact answer_reading_timeout ho
  · exact answer_reading_endOfStream ho

theorem ReadError.isAnswer {a : Input} {r : ReadEnd} {e : Error} (h : ReadError a r e) : a.isAnswer = true := by
  rcases h with ⟨rfl, -, -⟩ | ⟨rfl, -, -⟩ <;> rfl

/-- A read of the handshake fails, and the bytes that had arrived for it are lost (R44; log 9). -/
theorem step_readError_of_handshake {x : Exch} (hx : x.handshake = true) {a : Input} {r : ReadEnd} {e : Error}
    (hr : ReadError a r e) {s : State} {c : Nat} {l : List Input} (hl : s.lock = .held)
    (ho : s.opstep = .busy c (.reading x)) (h : s.inputs = a :: l) :
    step s = .next (failHandshake c e (setSync .indeterminate
      (setRx (s.rx.drop (x.replyLen - 1)) (emit (.didRead x.replyLen s.timeout r) (setInputs l s))))) := by
  have hw : a ≠ .writeOk := by rcases hr with ⟨rfl, -, -⟩ | ⟨rfl, -, -⟩ <;> exact nofun
  have hb : ∀ b, a ≠ .bytes b := by rcases hr with ⟨rfl, -, -⟩ | ⟨rfl, -, -⟩ <;> exact nofun
  rw [step_answer hl h hr.isAnswer hw hb, hr.answer (s := setInputs l s) ho, readFails, exchangeFails_of_handshake hx]
  rfl

/-- A failed read of the handshake, with either error, leaves what a closed transport leaves (R158, R230; logs 9 and 15). -/
theorem readError_passes_through_faulted {x : Exch} (hx : x.handshake = true) {a : Input} {r : ReadEnd} {e : Error}
    (hr : ReadError a r e) {s : State} {c : Nat} {ok : Bool} {rest : List Input} (htp : s.tp = .held) (hl : s.lock = .held)
    (ho : s.opstep = .busy c (.reading x)) (h : s.inputs = a :: .closed ok :: rest) :
    (∃ t, step s = .next t ∧ t.fsm = .faulted ∧ t.tp = .held ∧ t.sync = .indeterminate) ∧
      Sys2Proof.core.run 2 s = .next { s with
        fsm := .disconnected, tp := .released, lock := .free, sync := .insync, opstep := .idle, work := Work.empty
        rx := s.rx.drop (x.replyLen - 1), inputs := rest
        history := s.history ++ [.didRead x.replyLen s.timeout r, .closed ok]
        results := s.results ++ [⟨c, .err e⟩] } := by
  rw [List.append_cons s.history]
  exact run_failHandshake (step_readError_of_handshake hx hr hl ho h) htp hl rfl

/-- Settles O26: whichever call of the exchange fails, the step fails the handshake and the close follows. -/
theorem handshakeTransportErrorPassesThroughFaulted : Obligations.HandshakeTransportErrorPassesThroughFaulted := by
  unfold Obligations.HandshakeTransportErrorPassesThroughFaulted
  intro c x ok rest s hx htp hl
  refine ⟨fun f ho ht h => ?_, fun ho h => readError_passes_through_faulted hx (.inl ⟨rfl, rfl, rfl⟩) htp hl ho h,
    fun ho h => readError_passes_through_faulted hx (.inr ⟨rfl, rfl, rfl⟩) htp hl ho h⟩
  rw [List.append_cons s.history]
  exact run_failHandshake (step_writeFailed_of_handshake hx hl ho ht h) htp hl rfl

/-! ### A transport error in Ready -/

/-- With the lock free, a locked operation runs on from where its body leaves it. -/
theorem exec_of_free {i : Instr} (hi : takesLock i = true) {s t : State} (hl : s.lock = .free)
    (hb : bodyOf i s.port (setLock .held s) = t) : exec i s = .next (runOn s.inputs t) := by
  rw [exec_of_takesLock hi, locked_free hl, hb]

theorem exec_pose_ready {s : State} (hl : s.lock = .free) (hf : s.fsm = .ready) (p v f : BitVec 32) :
    exec (.pose p v f) s =
      .next (runOn s.inputs (sendPose s.port (clamp255 p) (clamp255 v) (clamp255 f) (setLock .held s))) :=
  exec_of_free (i := .pose p v f) rfl hl (if_pos ((connected_iff _).2 hf))

theorem exec_poseNorm_ready {s : State} (hl : s.lock = .free) (hf : s.fsm = .ready) (p v f : BitVec 64) :
    exec (.poseNorm p v f) s =
      .next (runOn s.inputs (sendPose s.port (scale255 (Config.nanByte s.draws) p)
        (scale255 (Config.nanByte (s.draws + 1)) v) (scale255 (Config.nanByte (s.draws + 2)) f)
        (setDraws (s.draws + 3) (setLock .held s)))) :=
  exec_of_free (i := .poseNorm p v f) rfl hl (if_pos ((connected_iff _).2 hf))

theorem exec_getState_ready {s : State} (hl : s.lock = .free) (hf : s.fsm = .ready) :
    exec .getState s = .next (runOn s.inputs (send s.port .readState Wire.readState (setLock .held s))) :=
  exec_of_free (i := .getState) rfl hl (if_pos ((connected_iff _).2 hf))

/-- What is left of `s` when an exchange in Ready has ended in a transport error: the calls `h` are on record, RX holds
`rx`, the caller has the error, the lock is free, and `FSM` and `TP` are as they were (R232). `runOn_writeFailed` and
`runOn_readError` tie it to the model. -/
def queryFailed (c : Nat) (h : List Event) (rx : List Byte) (rest : List Input) (e : Error) (s : State) : State :=
  { s with
    lock := .free, sync := .indeterminate, opstep := .idle, work := Work.empty, rx := rx, inputs := rest
    history := s.history ++ h
    results := s.results ++ [⟨c, .err e⟩] }

/-- A failed write outside the handshake ends the operation, and nothing runs on (R43, R232). -/
theorem runOn_writeFailed {x : Exch} (hx : x.handshake = false) {s : State} {c : Nat} {f : List Byte}
    (ho : s.opstep = .busy c (.writing x)) (ht : s.work.txbuf = some f) (rest : List Input) :
    runOn (.writeFailed :: rest) s = queryFailed c [.wrote f false] s.rx rest .writeFailed s := by
  rw [runOn_answer (running_busy ho) rfl, answer_writing_failed ho ht, writeFails, exchangeFails_of_not_handshake hx,
    runOn_idle rfl]
  rfl

/-- A failed read outside the handshake ends the operation, and the bytes that had arrived are lost (R44, R232; log 9). -/
theorem runOn_readError {x : Exch} (hx : x.handshake = false) {a : Input} {r : ReadEnd} {e : Error} (hr : ReadError a r e)
    {s : State} {c : Nat} (ho : s.opstep = .busy c (.reading x)) (rest : List Input) :
    runOn (a :: rest) s =
      queryFailed c [.didRead x.replyLen s.timeout r] (s.rx.drop (x.replyLen - 1)) rest e s := by
  rw [runOn_answer (running_busy ho) hr.isAnswer, hr.answer ho, readFails, exchangeFails_of_not_handshake hx,
    runOn_idle rfl]
  rfl

/-- The same after a write that has succeeded. -/
theorem runOn_writeOk_readError {x : Exch} (hx : x.handshake = false) {a : Input} {r : ReadEnd} {e : Error}
    (hr : ReadError a r e) {s : State} {c : Nat} {f : List Byte} (ho : s.opstep = .busy c (.writing x))
    (ht : s.work.txbuf = some f) (rest : List Input) :
    runOn (.writeOk :: a :: rest) s =
      queryFailed c [.wrote f true, .didRead x.replyLen s.timeout r] (s.rx.drop (x.replyLen - 1)) rest e s := by
  rw [runOn_answer (running_busy ho) rfl, answer_writing_ok ho ht, runOn_readError hx hr rfl,
    queryFailed, queryFailed, List.append_cons s.history]
  rfl

/-- The lock that a query took is free again, as it was before. -/
theorem queryFailed_of_free {s : State} (hl : s.lock = .free) (c : Nat) (h : List Event) (rx : List Byte)
    (rest : List Input) (e : Error) :
    queryFailed c h rx rest e s =
      { s with
        sync := .indeterminate, opstep := .idle, work := Work.empty, rx := rx, inputs := rest
        history := s.history ++ h
        results := s.results ++ [⟨c, .err e⟩] } := by
  rw [queryFailed, hl]

/-- Settles O38: the three queries differ only in the frame they send and in the draws. -/
theorem failedWriteInReadySkipsTheRead : Obligations.FailedWriteInReadySkipsTheRead := by
  unfold Obligations.FailedWriteInReadySkipsTheRead
  intro rest s hl hf hin
  refine ⟨fun p v f => ?_, fun p v f => ?_, ?_⟩
  · rw [exec_pose_ready hl hf, hin, runOn_writeFailed rfl rfl rfl]
    exact congrArg _ (queryFailed_of_free hl ..)
  · rw [exec_poseNorm_ready hl hf, hin, runOn_writeFailed rfl rfl rfl]
    exact congrArg _ (queryFailed_of_free (s := setDraws (s.draws + 3) s) hl ..)
  · rw [exec_getState_ready hl hf, hin, runOn_writeFailed rfl rfl rfl]
    exact congrArg _ (queryFailed_of_free hl ..)

/-- Settles O39: as for O38, with the error at the read. -/
theorem failedReadInReadyStaysReady : Obligations.FailedReadInReadyStaysReady := by
  unfold Obligations.FailedReadInReadyStaysReady
  intro a r e rest s hl hf hr hin
  have hr : ReadError a r e := hr
  refine ⟨fun p v f => ?_, fun p v f => ?_, ?_⟩
  · rw [exec_pose_ready hl hf, hin, runOn_writeOk_readError rfl hr rfl rfl]
    exact congrArg _ (queryFailed_of_free hl ..)
  · rw [exec_poseNorm_ready hl hf, hin, runOn_writeOk_readError rfl hr rfl rfl]
    exact congrArg _ (queryFailed_of_free (s := setDraws (s.draws + 3) s) hl ..)
  · rw [exec_getState_ready hl hf, hin, runOn_writeOk_readError rfl hr rfl rfl]
    exact congrArg _ (queryFailed_of_free hl ..)

end Sys2Proof.Proofs
end

section
/-! The decoder and the encoder as two readings of the same tables (30_encoding.md R70 to R86), and what the wire frames do when
they pass the transport port (R76 to R79, R163; log 2). On the wire, decoding is the inverse of encoding: the two `iff`s below say
so once, and every statement about frames is read off them. -/

namespace Sys2Proof.Proofs

open Sys2Proof.Machine

/-! ### Host commands -/

/-- Every assigned `OP` code reads back the lanes its row names (R84). -/
theorem decode_host_of_encode {i : Instr} {op : BitVec 5} {a : Operands} (h : encode i = .host op a) :
    decode (.host op a) = .ok i := by
  cases i with
  | deactivateReq | activateReq | setposeReq | statuspollReq | readstateReq => cases h
  | ackRsp | actCompleteRsp | actPendingRsp | stateRsp => cases h
  | _ => cases h; rfl

/-- The codes of R85, between and above the assigned ones, name no operation. -/
theorem decode_host_of_unassigned {op : BitVec 5} (h : (0x06 ≤ op.toNat ∧ op.toNat ≤ 0x0F) ∨ 0x1A ≤ op.toNat)
    (a : Operands) : decode (.host op a) = .error (.unassignedOp op) := by
  rw [decode, decodeHost]
  split
  case h_17 => rfl
  all_goals omega

/-- A command whose code names no operation is answered at the port (R85, R226). -/
theorem step_command_unassigned {s : State} {c : Nat} {op : BitVec 5} {args : Operands} {l : List Input}
    (h : s.inputs = .command c op args :: l) (hop : (0x06 ≤ op.toNat ∧ op.toNat ≤ 0x0F) ∨ 0x1A ≤ op.toNat) :
    step s = .next (deliver c (.err .illegalOp) (setInputs l s)) := by
  have hf : fetch s = fetchCommand c op args (setInputs l s) :=
    (fetch_input (handsOver_caller (by rw [h]; rfl))).trans (fetchInput_command h)
  rw [step, hf, fetchCommand, decode_host_of_unassigned hop]

/-- Settles O5: the decoder rejects the code, so the step only delivers the error. -/
theorem unassignedOpReturnsIllegalOp : Obligations.UnassignedOpReturnsIllegalOp := by
  unfold Obligations.UnassignedOpReturnsIllegalOp
  intro s c op args rest h hop
  exact step_command_unassigned h hop

/-! ### Request frames -/

/-- A set-pose frame is told from the constant requests by its first ten bytes (R73, R80). -/
theorem setPoseFrame_ne {g : List Byte} (hg : g.take 10 ≠ Wire.setPosePrefix) (p v q lo hi : Byte) :
    ¬ Wire.setPoseBody p v q ++ [lo, hi] = g := fun h => hg (h ▸ rfl)

/-- Any pose and any two checksum bytes after those ten are a SETPOSE_REQ (log 12). -/
theorem decode_setPoseFrame (p v q lo hi : Byte) :
    decode (.toDevice (Wire.setPoseBody p v q ++ [lo, hi])) = .ok (.setposeReq p v q lo hi) := by
  have hne (g : List Byte) (hg : g.take 10 ≠ Wire.setPosePrefix) := setPoseFrame_ne hg p v q lo hi
  rw [decode, decodeToDevice, if_neg (hne Wire.deactivate (by decide)), if_neg (hne Wire.activate (by decide)),
    if_neg (hne Wire.statusPoll (by decide)), if_neg (hne Wire.readState (by decide))]
  rfl

theorem encode_of_decode_toDevice {f : List Byte} {i : Instr} (h : decode (.toDevice f) = .ok i) :
    encode i = .toDevice f := by
  rw [decode, decodeToDevice] at h
  split at h
  · next hf => cases h; rw [hf]; rfl
  split at h
  · next hf => cases h; rw [hf]; rfl
  split at h
  · next hf => cases h; rw [hf]; rfl
  split at h
  · next hf => cases h; rw [hf]; rfl
  split at h
  · next hhead =>
    split at h
    · next p v q lo hi hfields =>
      cases h
      rw [← List.take_append_drop 10 f, hhead, hfields]
      rfl
    · cases h
  · cases h

/-- Block to device, the decoder accepts exactly the encodings (R71 to R75, R86). -/
theorem decode_toDevice_iff {f : List Byte} {i : Instr} : decode (.toDevice f) = .ok i ↔ encode i = .toDevice f := by
  refine ⟨encode_of_decode_toDevice, fun h => ?_⟩
  cases i with
  | setposeReq p v q lo hi => cases h; exact decode_setPoseFrame p v q lo hi
  | deactivateReq | activateReq | statuspollReq | readstateReq => cases h; rfl
  | _ => cases h

/-! ### Reply frames -/

theorem wellFormed_stateRsp_iff (bs : List Byte) : WellFormed (.stateRsp bs) ↔ bs.length = 11 := by
  simp [WellFormed, Instr.wellFormed]

theorem encode_of_decode_fromDevice {f : List Byte} {i : Instr} (h : decode (.fromDevice f) = .ok i) :
    encode i = .fromDevice f ∧ WellFormed i := by
  rw [decode, decodeFromDevice] at h
  split at h
  · next hlen => cases h; exact ⟨rfl, (wellFormed_stateRsp_iff f).2 hlen⟩
  split at h
  · next hf => cases h; rw [hf]; exact ⟨rfl, rfl⟩
  split at h
  · next hf => cases h; rw [hf]; exact ⟨rfl, rfl⟩
  split at h
  · next hf => cases h; rw [hf]; exact ⟨rfl, rfl⟩
  · cases h

/-- Device to block, the decoder accepts exactly the encodings of well-formed replies: the length of a state reply is all
that is checked of it (R76 to R79, R83). -/
theorem decode_fromDevice_iff {f : List Byte} {i : Instr} :
    decode (.fromDevice f) = .ok i ↔ encode i = .fromDevice f ∧ WellFormed i := by
  refine ⟨encode_of_decode_fromDevice, fun ⟨h, hw⟩ => ?_⟩
  cases i with
  | stateRsp bs => cases h; exact if_pos ((wellFormed_stateRsp_iff _).1 hw)
  | ackRsp | actCompleteRsp | actPendingRsp => cases h; rfl
  | _ => cases h

/-! ### The two directions of the encoding -/

/-- Settles O1, by the port that the encoding stands at. -/
theorem decodeOfEncodeIsTheInstruction : Obligations.DecodeOfEncodeIsTheInstruction := by
  unfold Obligations.DecodeOfEncodeIsTheInstruction
  intro i hw
  cases h : encode i with
  | host op a => exact decode_host_of_encode h
  | toDevice f => exact decode_toDevice_iff.2 h
  | fromDevice f => exact decode_fromDevice_iff.2 ⟨h, hw⟩

/-- Settles O2, one direction of the wire after the other. -/
theorem encodeOfDecodedFrameIsTheFrame : Obligations.EncodeOfDecodedFrameIsTheFrame := by
  unfold Obligations.EncodeOfDecodedFrameIsTheFrame
  exact fun f i => ⟨encode_of_decode_toDevice, fun h => (encode_of_decode_fromDevice h).1⟩

/-- Settles O4: each word is the encoding of its instruction, so it decodes to it. -/
theorem wordsOfTheTablesDecode : Obligations.WordsOfTheTablesDecode := by
  unfold Obligations.WordsOfTheTablesDecode
  exact ⟨decode_host_of_encode (i := .pose 0xFFFFFFF6 300 128) rfl,
    decode_host_of_encode (i := .crc16 [0xAA, 0xBB, 0x09] 2 1) rfl, decode_toDevice_iff.2 rfl,
    decode_fromDevice_iff.2 ⟨rfl, rfl⟩⟩

/-! ### The frames the block can emit -/

theorem wellFormed_setposeReq_iff (p v q lo hi : Byte) :
    WellFormed (.setposeReq p v q lo hi) ↔ lo = loByte (Wire.setPoseCrc p v q) ∧ hi = hiByte (Wire.setPoseCrc p v q) := by
  simp [WellFormed, Instr.wellFormed]

/-- A well-formed SETPOSE_REQ encodes to the frame that BUILD_SETPOSE makes (R121). -/
theorem encode_setposeReq_of_wellFormed {p v q lo hi : Byte} (hw : WellFormed (.setposeReq p v q lo hi)) :
    encode (.setposeReq p v q lo hi) = .toDevice (Wire.setPose p v q) := by
  obtain ⟨rfl, rfl⟩ := (wellFormed_setposeReq_iff p v q lo hi).1 hw
  rfl

/-- Settles O3: a request that decodes is an encoding, and of those only SETPOSE_REQ has fields, its checksum fixed by
well-formedness. -/
theorem emittableFramesAreTheFourConstantsAndTheSetPoses :
    Obligations.EmittableFramesAreTheFourConstantsAndTheSetPoses := by
  unfold Obligations.EmittableFramesAreTheFourConstantsAndTheSetPoses
  intro f
  constructor
  · rintro ⟨i, hd, hw⟩
    have he := encode_of_decode_toDevice hd
    cases i with
    | deactivateReq => cases he; exact .inl rfl
    | activateReq => cases he; exact .inr (.inl rfl)
    | statuspollReq => cases he; exact .inr (.inr (.inl rfl))
    | readstateReq => cases he; exact .inr (.inr (.inr (.inl rfl)))
    | setposeReq p v q lo hi =>
      rw [encode_setposeReq_of_wellFormed hw] at he
      cases he
      exact .inr (.inr (.inr (.inr ⟨p, v, q, rfl⟩)))
    | _ => cases he
  · rintro (rfl | rfl | rfl | rfl | ⟨p, v, q, rfl⟩)
    · exact ⟨.deactivateReq, rfl, rfl⟩
    · exact ⟨.activateReq, rfl, rfl⟩
    · exact ⟨.statuspollReq, rfl, rfl⟩
    · exact ⟨.readstateReq, rfl, rfl⟩
    · exact ⟨_, decode_setPoseFrame .., (wellFormed_setposeReq_iff ..).2 ⟨rfl, rfl⟩⟩

/-! ### What the frames do at the transport port -/

theorem exec_of_encode_toDevice {i : Instr} {f : List Byte} (h : encode i = .toDevice f) (s : State) :
    exec i s = .next (passes f s) := by
  cases i with
  | deactivateReq | activateReq | setposeReq | statuspollReq | readstateReq => cases h; rfl
  | _ => cases h

theorem exec_of_encode_fromDevice {i : Instr} {b : List Byte} (h : encode i = .fromDevice b) (s : State) :
    exec i s = .next (answer (.bytes b) s) := by
  cases i with
  | ackRsp | actCompleteRsp | actPendingRsp | stateRsp => cases h; rfl
  | _ => cases h

/-- Settles O47: a request frame only passes where it is due. -/
theorem framesThatAreNotDueDoNothing : Obligations.FramesThatAreNotDueDoNothing := by
  unfold Obligations.FramesThatAreNotDueDoNothing
  intro i f s h hdue
  rw [exec_of_encode_toDevice h, passes, if_neg hdue]

/-- The reply `b` of an exchange has been read whole: the read is on record and `b` is `RXBUF`. `answer_whole_reply` ties it to
the model. -/
def replyRead (x : Exch) (b : List Byte) (s : State) : State :=
  setWork { s.work with rxbuf := some b, rxlen := some (BitVec.ofNat 4 x.replyLen) }
    (emit (.didRead x.replyLen s.timeout (.bytes b)) s)

/-- With nothing waiting in RX, bytes of the right number are the reply, and RX is empty again (R44, R60). -/
theorem answer_whole_reply {s : State} {c : Nat} {x : Exch} {b : List Byte} (hrx : s.rx = [])
    (ho : s.opstep = .busy c (.reading x)) (hb : b.length = x.replyLen) :
    answer (.bytes b) s = useReply c x b (replyRead x b s) := by
  have hall : s.rx ++ b = b := by rw [hrx, List.nil_append]
  have hempty : ∀ e, setRx [] (emit e (setRx b s)) = emit e s := fun e => by rw [← hrx]; rfl
  rw [answer_reading_bytes ho, readArrives, hall, if_pos hb.ge, readSucceeds]
  simp only [setRx_rx, setRx_timeout, setRx_work, List.take_of_length_le hb.le, List.drop_of_length_le hb.le, hempty]
  rfl

/-- Settles O48: the ack is read whole, and each of the three exchanges goes on with it. -/
theorem ackAdvancesTheOperation : Obligations.AckAdvancesTheOperation := by
  unfold Obligations.AckAdvancesTheOperation
  intro c s hrx
  have hack {x : Exch} (hlen : x.replyLen = 8) (ho : s.opstep = .busy c (.reading x)) :
      exec .ackRsp s = .next (useReply c x Wire.ack (replyRead x Wire.ack s)) := by
    rw [exec_of_encode_fromDevice (i := .ackRsp) rfl, answer_whole_reply (b := Wire.ack) hrx ho hlen.symm]
  refine ⟨fun ho => ?_, fun ho => ?_, fun ho => ?_⟩
  · rw [hack rfl ho, useReply, if_pos isAck_ack]; rfl
  · rw [hack rfl ho, useReply, if_pos isAck_ack]; rfl
  · rw [hack rfl ho, useReply, if_pos isAck_ack]; rfl

/-- Settles O49: the reply is read whole, and the poll ends or is repeated. -/
theorem activationRepliesEndOrRepeatThePoll : Obligations.ActivationRepliesEndOrRepeatThePoll := by
  unfold Obligations.ActivationRepliesEndOrRepeatThePoll
  intro c s hrx ho
  constructor
  · rw [exec_of_encode_fromDevice (i := .actCompleteRsp) rfl, answer_whole_reply hrx ho rfl, useReply,
      if_pos isActComplete_actComplete]
    rfl
  · rw [exec_of_encode_fromDevice (i := .actPendingRsp) rfl, answer_whole_reply hrx ho rfl, useReply,
      if_neg (by simp), if_pos isActPending_actPending]
    rfl

/-- Only the length is checked of a state reply (R201, R211). -/
theorem exists_decodeStatus_of_length : ∀ {bs : List Byte}, bs.length = 11 → ∃ st, decodeStatus bs = some st
  | [_, _, _, _, _, _, _, _, _, _, _], _ => ⟨_, rfl⟩

/-- Settles O50: eleven bytes are read whole and decode to a record. -/
theorem anyStateReplyIsDecoded : Obligations.AnyStateReplyIsDecoded := by
  unfold Obligations.AnyStateReplyIsDecoded
  intro c bs s hlen hrx ho
  obtain ⟨st, hst⟩ := exists_decodeStatus_of_length hlen
  refine ⟨st, hst, ?_⟩
  rw [exec_of_encode_fromDevice (i := .stateRsp bs) rfl, answer_whole_reply hrx ho hlen, useReply, hst]
  rfl

end Sys2Proof.Proofs
end

section
/-! The Checksum Engine: the bit step as arithmetic, what the byte step does to a register and to its own bytes, and the operation
CRC16 as one result per operands (40_checksum.md R101 to R105, R107). -/

namespace Sys2Proof.Proofs

open Sys2Proof.Machine

/-! ### The bit step -/

theorem bitStep_odd {c : Word16} (h : c.getLsbD 0 = true) : bitStep c = c >>> 1 ^^^ 0xA001#16 := if_pos h

theorem bitStep_even {c : Word16} (h : c.getLsbD 0 = false) : bitStep c = c >>> 1 := if_neg (Bool.eq_false_iff.1 h)

theorem getLsbD_zero_eq_true_iff (c : Word16) : c.getLsbD 0 = true ↔ c.toNat % 2 = 1 := by
  rw [BitVec.getLsbD, Nat.testBit_zero, decide_eq_true_iff]

theorem ushiftRight_one_eq_ofNat (c : Word16) : c >>> 1 = BitVec.ofNat 16 (c.toNat / 2) := by
  have hlt : c.toNat / 2 < 2 ^ 16 := by omega
  apply BitVec.eq_of_toNat_eq
  rw [BitVec.toNat_ushiftRight, Nat.shiftRight_eq_div_pow, pow_one, BitVec.toNat_ofNat, Nat.mod_eq_of_lt hlt]

/-- The shift clears bit 15 and the polynomial sets it, so the bit that is shifted out is not lost. -/
theorem getLsbD_fifteen_bitStep (c : Word16) : (bitStep c).getLsbD 15 = c.getLsbD 0 := by
  have hshift : (c >>> 1).getLsbD 15 = false := by
    rw [BitVec.getLsbD_ushiftRight]
    exact BitVec.getLsbD_of_ge c 16 le_rfl
  cases h : c.getLsbD 0 with
  | false => rw [bitStep_even h, hshift]
  | true =>
    rw [bitStep_odd h, BitVec.getLsbD_xor, hshift]
    rfl

theorem eq_of_ushiftRight_one {c d : Word16} (hbit : c.getLsbD 0 = d.getLsbD 0) (hshift : c >>> 1 = d >>> 1) : c = d := by
  refine BitVec.eq_of_getLsbD_eq fun i _ => ?_
  cases i with
  | zero => exact hbit
  | succ i =>
    have hi : (c >>> 1).getLsbD i = (d >>> 1).getLsbD i := by rw [hshift]
    rwa [BitVec.getLsbD_ushiftRight, BitVec.getLsbD_ushiftRight, Nat.add_comm] at hi

theorem bitStep_injective : Function.Injective bitStep := by
  intro c d h
  have hbit : c.getLsbD 0 = d.getLsbD 0 := by rw [← getLsbD_fifteen_bitStep, h, getLsbD_fifteen_bitStep]
  refine eq_of_ushiftRight_one hbit ?_
  cases hc : c.getLsbD 0 with
  | false => rwa [bitStep_even hc, bitStep_even (hbit ▸ hc)] at h
  | true => rwa [bitStep_odd hc, bitStep_odd (hbit ▸ hc), BitVec.xor_left_inj] at h

/-! ### The byte step -/

theorem bitSteps_eq_iterate (n : Nat) (c : Word16) : bitSteps n c = bitStep^[n] c := by
  induction n generalizing c with
  | zero => rfl
  | succ n ih => exact ih (bitStep c)

theorem byteStep_eq_iterate (c : Word16) (b : Byte) : byteStep c b = bitStep^[8] (c ^^^ b.setWidth 16) :=
  bitSteps_eq_iterate 8 _

/-- Settles O8: the register is halved by the shift, and eight bit steps are the eighth iterate of one. -/
theorem bitStepHalvesAndXors : Obligations.BitStepHalvesAndXors := by
  unfold Obligations.BitStepHalvesAndXors
  refine ⟨fun c => ?_, fun c b => ?_⟩
  · simp only [bitStep, getLsbD_zero_eq_true_iff, ushiftRight_one_eq_ofNat]
  · rw [byteStep_eq_iterate, BitVec.ofNat_toNat]

theorem byteStep_injective (b : Byte) : Function.Injective fun c : Word16 => byteStep c b := by
  intro c d h
  simp only [byteStep_eq_iterate] at h
  exact (BitVec.xor_left_inj _).1 (bitStep_injective.iterate 8 h)

/-- Settles O12: no bit step loses a bit, and an injection of a finite type into itself is onto. -/
theorem byteStepIsABijection : Obligations.ByteStepIsABijection := by
  unfold Obligations.ByteStepIsABijection
  exact fun b => Finite.injective_iff_bijective.1 (byteStep_injective b)

/-! ### A register fed its own bytes -/

/-- While the bits shifted out are 0 the polynomial is never applied. -/
theorem bitSteps_of_low_bits_zero {n : Nat} {c : Word16} (h : ∀ i < n, c.getLsbD i = false) : bitSteps n c = c >>> n := by
  induction n generalizing c with
  | zero => rfl
  | succ n ih =>
    have hlow : ∀ i < n, (c >>> 1).getLsbD i = false := fun i hi => by
      rw [BitVec.getLsbD_ushiftRight]
      exact h (1 + i) (by omega)
    calc bitSteps (n + 1) c = bitSteps n (c >>> 1) := by rw [bitSteps, bitStep_even (h 0 n.succ_pos)]
      _ = c >>> 1 >>> n := ih hlow
      _ = c >>> (n + 1) := by rw [← BitVec.shiftRight_add, Nat.add_comm]

/-- Its low byte clears the low half of the register, which then only shifts. -/
theorem byteStep_loByte (c : Word16) : byteStep c (loByte c) = c >>> 8 := by
  have hlow : ∀ i < 8, (c ^^^ (loByte c).setWidth 16).getLsbD i = false := fun i hi => by
    have hi16 : i < 16 := by omega
    simp [loByte, hi, hi16]
  have hhigh : (loByte c).setWidth 16 >>> 8 = 0#16 := by
    refine BitVec.eq_of_getLsbD_eq fun i _ => ?_
    simp
  rw [byteStep, bitSteps_of_low_bits_zero hlow, BitVec.ushiftRight_xor_distrib, hhigh, BitVec.xor_zero]

theorem hiByte_setWidth (c : Word16) : (hiByte c).setWidth 16 = c >>> 8 := by
  refine BitVec.eq_of_getLsbD_eq fun i hi => ?_
  have hge : ¬ i < 8 → c.getLsbD (8 + i) = false := fun h => BitVec.getLsbD_of_ge c _ (by omega)
  by_cases h : i < 8
  · simp [hiByte, hi, h]
  · simp [hiByte, h, hge h]

/-- Its high byte then clears what is left. -/
theorem byteStep_hiByte (c : Word16) : byteStep (c >>> 8) (hiByte c) = 0#16 := by
  rw [byteStep, hiByte_setWidth, BitVec.xor_self, bitSteps_of_low_bits_zero (fun i _ => BitVec.getLsbD_zero),
    BitVec.zero_ushiftRight]

theorem crcFrom_own_bytes (c : Word16) : crcFrom c [loByte c, hiByte c] = 0#16 := by
  calc crcFrom c [loByte c, hiByte c] = byteStep (byteStep c (loByte c)) (hiByte c) := rfl
    _ = byteStep (c >>> 8) (hiByte c) := by rw [byteStep_loByte]
    _ = 0#16 := byteStep_hiByte c

/-- Settles O13: the engine reaches the checksum and is then fed its two bytes. -/
theorem appendedChecksumLeavesZero : Obligations.AppendedChecksumLeavesZero := by
  unfold Obligations.AppendedChecksumLeavesZero
  intro m
  rw [crcOf, crcFrom_append]
  exact crcFrom_own_bytes (crcOf m)

/-! ### The operation CRC16 -/

theorem exec_crc16_of_some {bs : List Byte} {start len : Int} {c : Word16} (h : crc16 bs start len = some c) (s : State) :
    exec (.crc16 bs start len) s = .next (returns (.ok (.pair (loByte c) (hiByte c))) s) := by
  rw [exec, execCrc16, h]

theorem exec_crc16_of_none {bs : List Byte} {start len : Int} (h : crc16 bs start len = none) (s : State) :
    exec (.crc16 bs start len) s = .next (returns (.err .illegalOp) s) := by
  rw [exec, execCrc16, h]

theorem take_drop_eq_map_range {bs : List Byte} {start n : Nat} (h : start + n ≤ bs.length) :
    (bs.drop start).take n = (List.range n).map fun i => bs.getD (start + i) 0 := by
  refine List.ext_getElem (by simp; omega) fun i hi _ => ?_
  have hlt : start + i < bs.length := by simp at hi; omega
  simp [hlt]

/-- The range of R103 is the sequence that starts at `start`, read offset by offset. -/
theorem crcOf_range {bs : List Byte} {start n : Nat} (h : start + n ≤ bs.length) :
    crcOf ((bs.drop start).take n) =
      (List.range n).foldl (fun c i => byteStep c (bs.getD (start + i) 0)) 0xFFFF#16 := by
  rw [take_drop_eq_map_range h, crcOf, crcFrom, List.foldl_map]

/-- Settles O9: inside its range CRC16 runs the engine over the bytes at those offsets. -/
theorem crc16RunsTheLoop : Obligations.Crc16RunsTheLoop := by
  unfold Obligations.Crc16RunsTheLoop
  refine ⟨fun _ => rfl, fun bs start len s hs hl hrange => ?_⟩
  rw [← crcOf_range (by omega : start.toNat + len.toNat ≤ bs.length)]
  exact exec_crc16_of_some (crc16_inside hs hl hrange) s

/-- Settles O10: outside its range CRC16 has no register to return. -/
theorem crc16OutsideItsRangeIsIllegalOp : Obligations.Crc16OutsideItsRangeIsIllegalOp := by
  unfold Obligations.Crc16OutsideItsRangeIsIllegalOp
  exact fun bs start len s h => exec_crc16_of_none (crc16_outside h) s

/-- Settles O11: whether there is a register, and which, depends on the operands alone. -/
theorem crc16IsTheSameInEveryState : Obligations.Crc16IsTheSameInEveryState := by
  unfold Obligations.Crc16IsTheSameInEveryState
  intro bs start len
  cases h : crc16 bs start len with
  | some c => exact ⟨_, exec_crc16_of_some h⟩
  | none => exact ⟨_, exec_crc16_of_none h⟩

end Sys2Proof.Proofs
end

section
/-! The Frame Codec: what the builders and the recognisers answer in every state, and that no frame leaves the block without the
checksum of its own bytes (41_frame_codec.md R121 to R134). -/

namespace Sys2Proof.Proofs

open Sys2Proof.Machine

/-! ### Frames that carry their checksum -/

/-- `Wire.fresh` looks at a frame from its end; this is the same frame from its beginning (R131). -/
theorem fresh_iff (f : List Byte) :
    Wire.fresh f = true ↔ ∃ body, f = body ++ [loByte (crcOf body), hiByte (crcOf body)] := by
  rw [Wire.fresh, decide_eq_true_iff]
  constructor
  · rintro ⟨-, hdrop⟩
    refine ⟨f.take (f.length - 2), ?_⟩
    rw [← hdrop, List.take_append_drop]
  · rintro ⟨body, rfl⟩
    simp

/-- The four constants carry their checksum because they encode instructions; a set-pose frame is asked for it. -/
theorem fresh_of_requestOk {x : Exch} {f : List Byte} (h : requestOk x f = true) : Wire.fresh f = true := by
  cases x with
  | deactivate => rw [of_decide_eq_true h]; exact (Laws.EncodingShape.deactivateReq rfl).2.2
  | activate => rw [of_decide_eq_true h]; exact (Laws.EncodingShape.activateReq rfl).2.2
  | poll => rw [of_decide_eq_true h]; exact (Laws.EncodingShape.statuspollReq rfl).2.2
  | readState => rw [of_decide_eq_true h]; exact (Laws.EncodingShape.readstateReq rfl).2.2
  | setPose => exact (Bool.and_eq_true_iff.1 h).2

/-! ### Frames on record -/

/-- The observer refuses a write, whatever its answer, of a frame that is the request of no exchange. -/
theorem watch_wrote_of_no_request {f : List Byte} (h : ∀ x, requestOk x f = false) (p : Phase) (ok : Bool) :
    watch p (.wrote f ok) = .illegal := by
  cases p with
  | due x => simp [watch, h]
  | ready => simp [watch, h]
  | _ => rfl

/-- Every frame on record, sent or not, is the request of some exchange (R86). -/
theorem exists_request_of_wrote {s : State} {f : List Byte} {ok : Bool} (h : Consistent s)
    (hmem : Event.wrote f ok ∈ s.history) : ∃ x, requestOk x f = true := by
  obtain ⟨pre, post, hsplit⟩ := List.append_of_mem hmem
  have hlegal : phaseOf ((pre ++ [.wrote f ok]) ++ post) ≠ .illegal := by
    have hall := phaseOf_history_ne_illegal h
    rwa [hsplit, List.append_cons] at hall
  have hwrite := phaseOf_prefix_ne_illegal hlegal
  rw [phaseOf_append] at hwrite
  by_contra hnone
  exact hwrite (watch_wrote_of_no_request (fun x => Bool.eq_false_iff.2 fun hx => hnone ⟨x, hx⟩) _ _)

/-- Settles O57: a frame on record is a request, and every request carries its checksum. -/
theorem everyFrameSentCarriesItsChecksum : Obligations.EveryFrameSentCarriesItsChecksum := by
  unfold Obligations.EveryFrameSentCarriesItsChecksum
  intro s f ok h hmem
  obtain ⟨x, hx⟩ := exists_request_of_wrote h hmem
  exact (fresh_iff f).1 (fresh_of_requestOk hx)

/-! ### The builders -/

theorem exec_buildSetpose (p v f : Byte) (s : State) :
    exec (.buildSetpose p v f) s = .next (returns (.ok (.frame (Wire.setPose p v f))) s) := rfl

/-- Settles O14: the builder returns the frame `Wire.setPose`, which is the body and the register after it. -/
theorem buildSetposeReturnsTheFrame : Obligations.BuildSetposeReturnsTheFrame := by
  unfold Obligations.BuildSetposeReturnsTheFrame
  exact ⟨fun _ => rfl, fun p v f s => ⟨setPose_length p v f, exec_buildSetpose p v f s⟩⟩

/-- Settles O15: the four frames are constants of the ROM (R27), so each clause holds by definition. -/
theorem constantBuildersReturnTheirFrame : Obligations.ConstantBuildersReturnTheirFrame := by
  unfold Obligations.ConstantBuildersReturnTheirFrame
  exact ⟨fun _ => ⟨rfl, rfl, rfl, rfl⟩, fun _ => ⟨rfl, rfl, rfl, rfl⟩⟩

/-! ### The recognisers -/

/-- Settles O16: a recogniser is one comparison of the whole list with its constant, so each clause holds by definition. -/
theorem recognisersCompareExactly : Obligations.RecognisersCompareExactly := by
  unfold Obligations.RecognisersCompareExactly
  exact ⟨fun _ => ⟨rfl, rfl, rfl⟩, fun _ _ => ⟨rfl, rfl, rfl⟩⟩

/-- The two 7-byte replies are told apart at offsets 3, 5 and 6 and nowhere else (R134). -/
theorem actComplete_ne_actPending_at_iff :
    ∀ i, i < 7 → (Wire.actComplete.getD i 0 ≠ Wire.actPending.getD i 0 ↔ i = 3 ∨ i = 5 ∨ i = 6) := by decide

/-- Settles O17: a list that two recognisers accept would be two constants, but they differ at offset 3 or in their length. -/
theorem atMostOneRecogniserIsTrue : Obligations.AtMostOneRecogniserIsTrue := by
  unfold Obligations.AtMostOneRecogniserIsTrue
  have hcomplete : Wire.ack.length ≠ Wire.actComplete.length := by decide
  have hpending : Wire.ack.length ≠ Wire.actPending.length := by decide
  refine ⟨actComplete_ne_actPending_at_iff, hcomplete, hpending, fun r => ?_⟩
  simp only [isAck_iff, isActComplete_iff, isActPending_iff]
  refine ⟨?_, ?_, ?_⟩
  · rintro ⟨rfl, heq⟩
    exact (actComplete_ne_actPending_at_iff 3 (by decide)).2 (.inl rfl) (by rw [heq])
  · rintro ⟨rfl, heq⟩
    exact hcomplete (congrArg List.length heq)
  · rintro ⟨rfl, heq⟩
    exact hpending (congrArg List.length heq)

end Sys2Proof.Proofs
end

section
/-! The connection state machine: CONNECT from the open to Ready or to the failure exit, DISCONNECT, IS_CONNECTED, and the
transition table (42_activation_fsm.md R151 to R162). CONNECT at the write of a handshake exchange is one state,
`connectAt`; what an exchange makes of that state is said once for the replies that are accepted and once for those that are
not, and each run of CONNECT is a chain of exchanges. -/

namespace Sys2Proof.Proofs

open Sys2Proof.Machine

/-! ### The transition table -/

/-- The value of `FSM` while a locked operation is at a position (R12, R14). -/
def posFsm : Pos → Fsm
  | .opening => .connecting
  | .writing x => x.fsm
  | .reading x => x.fsm
  | .failing _ => .faulted
  | .closing => .ready

theorem fsm_of_busy {s : State} {c : Nat} {p : Pos} (h : Consistent s) (ho : s.opstep = .busy c p) : s.fsm = posFsm p := by
  obtain ⟨-, hag, -⟩ := (consistent_iff_of_busy ho).1 h
  cases p with
  | writing x =>
    simp only [agrees, ho, Bool.and_eq_true, decide_eq_true_eq] at hag
    obtain ⟨⟨-, hfsm, -⟩, -⟩ := hag
    exact hfsm
  | _ =>
    simp only [agrees, ho, decide_eq_true_eq] at hag
    obtain ⟨-, hfsm, -⟩ := hag
    exact hfsm

/-- `FSM` stays, or makes a transition that the table lists (R162). -/
def FollowsTable (a b : Fsm) : Prop := b = a ∨ fsmMove a b = true

/-- A transport error takes every state of the handshake to Faulted and leaves Ready (R158, R232). -/
theorem exchangeFails_followsTable {x : Exch} {s : State} (hf : s.fsm = x.fsm) (c : Nat) (e : Error) :
    FollowsTable s.fsm (exchangeFails c x e s).fsm := by
  rw [hf]
  cases x with
  | deactivate | activate | poll => exact .inr rfl
  | setPose | readState => exact .inl hf

/-- What an operation does with a reply moves `FSM` along the rows of the table for that exchange (R153 to R158). -/
theorem useReply_followsTable {x : Exch} {s : State} (hf : s.fsm = x.fsm) (c : Nat) (r : List Byte) :
    FollowsTable s.fsm (useReply c x r s).fsm := by
  rw [hf]
  rcases useReply_cases c x r s with ⟨rfl, -, hu⟩ | ⟨rfl, -, hu⟩ | ⟨rfl, -, hu⟩ | ⟨rfl, -, -, hu⟩ | ⟨rfl, -, hu⟩ |
    ⟨rfl, -, hu⟩ | ⟨rfl, -, -, hu⟩ | ⟨rfl, -, hu⟩ | ⟨rfl, -, hu⟩ | ⟨st, rfl, -, hu⟩ | ⟨rfl, -, hu⟩ <;> rw [hu]
  · exact .inr rfl
  · exact .inr rfl
  · exact .inr rfl
  · exact .inl hf
  · exact .inr rfl
  · exact .inr rfl
  · exact .inr rfl
  · exact .inl hf
  · exact .inl hf
  · exact .inl hf
  · exact .inl hf

/-- Settles O29: `FSM` is fixed by the position, and each return of a call makes a move of the table from there. -/
theorem transportAnswersFollowTheTransitionTable : Obligations.TransportAnswersFollowTheTransitionTable := by
  unfold Obligations.TransportAnswersFollowTheTransitionTable
  intro a s h
  rcases answer_cases a s with ⟨c, stale, ho, -, ha⟩ | ⟨c, ho, -, ha⟩ | ⟨c, x, f, -, -, -, ha⟩ | ⟨c, x, f, ho, -, -, ha⟩ |
    ⟨c, x, b, ho, -, -, ha⟩ | ⟨c, x, r, e, ho, -, ha⟩ | ⟨c, e, ok, ho, -, ha⟩ | ⟨c, ok, ho, -, ha⟩ | ⟨b, -, ha⟩ | ha <;>
    rw [ha]
  · rw [fsm_of_busy h ho]; exact .inr rfl
  · rw [fsm_of_busy h ho]; exact .inr rfl
  · exact .inl rfl
  · rw [writeFails]; exact exchangeFails_followsTable (s := emit _ s) (fsm_of_busy h ho) c _
  · rw [readSucceeds]; exact useReply_followsTable (s := setWork _ (setRx _ (emit _ (setRx _ s)))) (fsm_of_busy h ho) c _
  · rw [readFails]; exact exchangeFails_followsTable (s := setRx _ (emit _ s)) (fsm_of_busy h ho) c _
  · rw [fsm_of_busy h ho]; exact .inr rfl
  · rw [fsm_of_busy h ho]; exact .inr rfl
  · exact .inl rfl
  · exact .inl rfl

/-! ### Operations that end after at most one transport call -/

/-- An operation that found the lock free leaves it as it was. -/
theorem release_of_free {s : State} (hl : s.lock = .free) (u : State) :
    release u = setWork Work.empty (setOpstep .idle (setLock s.lock u)) := by rw [hl, release]

/-- Settles O20: IS_CONNECTED only returns the comparison of `FSM` with Ready, so each clause holds by definition. -/
theorem isConnectedReportsReady : Obligations.IsConnectedReportsReady := by
  unfold Obligations.IsConnectedReportsReady
  exact ⟨fun _ => rfl, fun _ => rfl⟩

/-- CONNECT outside Ready enters the open (R151). -/
theorem exec_connect_opening {s : State} (hl : s.lock = .free) (hf : s.fsm ≠ .ready) :
    exec .connect s =
      .next (runOn s.inputs (setOpstep (.busy s.port .opening) (setFsm .connecting (setLock .held s)))) :=
  exec_of_free (i := .connect) rfl hl (if_neg (mt (connected_iff _).1 hf))

/-- An operation that ends at once runs on with nothing. -/
theorem exec_of_complete {i : Instr} (hi : takesLock i = true) {s : State} (hl : s.lock = .free)
    (hb : bodyOf i s.port (setLock .held s) = complete s.port .unit (setLock .held s)) :
    exec i s = .next { s with
      opstep := .idle, work := Work.empty, results := s.results ++ [⟨s.port, .ok .unit⟩] } := by
  rw [exec_of_free hi hl hb, runOn_idle rfl, complete, release_of_free hl]
  rfl

/-- Settles O23: CONNECT in Ready ends at once, and a consistent block is idle already. -/
theorem connectInReadyIsANoOp : Obligations.ConnectInReadyIsANoOp := by
  unfold Obligations.ConnectInReadyIsANoOp
  intro s h hl hf
  have hidle := idle_of_free h hl
  obtain ⟨-, -, hwork, -⟩ := (consistent_iff_of_idle hidle).1 h
  rw [exec_of_complete (i := .connect) rfl hl (if_pos ((connected_iff _).2 hf)), ← hidle, ← hwork]

/-- Settles O24: the refused open ends CONNECT; no transport was held before, so none is held after. -/
theorem refusedOpenEndsDisconnected : Obligations.RefusedOpenEndsDisconnected := by
  unfold Obligations.RefusedOpenEndsDisconnected
  intro s rest hl hf hin
  refine ⟨?_, fun h => ?_⟩
  · rw [exec_connect_opening hl hf, hin, runOn_answer rfl rfl, answer_opening_refused (c := s.port) rfl, runOn_idle rfl,
      openFails, raise, release_of_free hl]
    rfl
  · obtain ⟨-, -, htp⟩ := (settled_of_free h hl).resolve_right fun hready => hf hready.2.1
    simp [persistent, readSync, htp, hl, State.reset, State.construct]

/-- Settles O27: DISCONNECT ends at once, or closes and ends, or waits for the lock. -/
theorem disconnectReleasesTheTransport : Obligations.DisconnectReleasesTheTransport := by
  unfold Obligations.DisconnectReleasesTheTransport
  refine ⟨fun _ => rfl, fun s => ⟨fun hl hf => ?_, fun ok rest hl hf hin => ?_, fun hl => ?_⟩⟩
  · exact exec_of_complete (i := .disconnect) rfl hl (if_pos hf)
  · rw [exec_of_free (i := .disconnect) rfl hl (if_neg hf), hin, runOn_answer rfl rfl,
      answer_closing_closed (c := s.port) rfl, runOn_idle rfl, disconnectCloses, complete, release_of_free hl]
    rfl
  · exact lockedOperationsWait .disconnect s rfl hl

/-! ### One exchange of the handshake -/

/-- CONNECT, begun in `s`, at the write of an exchange of the handshake: the calls `h` are on record, nothing waits in RX, and
the working registers are `w`. `connect_reaches_deactivate` ties it to the model. -/
def connectAt (x : Exch) (h : List Event) (w : Work) (s : State) : State :=
  { s with
    fsm := x.fsm, tp := .held, lock := .held, sync := .insync, opstep := .busy s.port (.writing x), work := w, rx := []
    history := s.history ++ h }

/-- The calls of an exchange in which the frame `f` was written and the reply `b` was read. -/
def exchangeCalls (x : Exch) (f b : List Byte) (timeout : Nat) : List Event :=
  [.wrote f true, .didRead x.replyLen timeout (.bytes b)]

/-- After the open, with an empty stream, the first write of the handshake is due (R151, R153). -/
theorem connect_reaches_deactivate {s : State} {l : List Input} (hl : s.lock = .free) (hf : s.fsm ≠ .ready)
    (hin : s.inputs = .openOk [] :: l) :
    ∃ w, w.txbuf = some Wire.deactivate ∧
      exec .connect s = .next (runOn l (connectAt .deactivate [.opened s.tpParams true] w s)) := by
  refine ⟨(openSucceeds s.port [] (setLock .held s)).work, rfl, ?_⟩
  rw [exec_connect_opening hl hf, hin, runOn_answer rfl rfl, answer_opening_ok (c := s.port) rfl]
  rfl

section

variable {x y : Exch} {b f g : List Byte} {h : List Event} {w : Work} {s : State}

/-- The working registers after the write and the read of an exchange; `runOn_exchange` ties them to the model. -/
def workAfterReply (x : Exch) (b : List Byte) (w : Work) : Work :=
  { w with rxbuf := some b, rxlen := some (BitVec.ofNat 4 x.replyLen) }

/-- A write that succeeds and a reply that arrives whole put the exchange on record; then the operation uses the reply. -/
theorem runOn_exchange (hw : w.txbuf = some f) (hb : b.length = x.replyLen) (l : List Input) :
    runOn (.writeOk :: .bytes b :: l) (connectAt x h w s) =
      runOn l (useReply s.port x b (setOpstep (.busy s.port (.reading x))
        (connectAt x (h ++ exchangeCalls x f b s.timeout) (workAfterReply x b w) s))) := by
  rw [runOn_answer rfl rfl, answer_writing_ok (c := s.port) rfl hw, runOn_answer rfl rfl,
    answer_whole_reply (c := s.port) rfl rfl hb, exchangeCalls, List.append_cons h, connectAt, connectAt,
    ← List.append_assoc, ← List.append_assoc]
  rfl

/-- A reply that the step accepts makes the write of the next exchange due (R153 to R155). -/
theorem runOn_accepted
    (hu : ∀ c t, t.fsm = x.fsm → useReply c x b t = send c y g (setFsm y.fsm t))
    (hw : w.txbuf = some f) (hb : b.length = x.replyLen) (l : List Input) :
    ∃ w', w'.txbuf = some g ∧
      runOn (.writeOk :: .bytes b :: l) (connectAt x h w s) =
        runOn l (connectAt y (h ++ exchangeCalls x f b s.timeout) w' s) := by
  refine ⟨{ workAfterReply x b w with txbuf := some g, txlen := some (BitVec.ofNat 4 g.length) }, rfl, ?_⟩
  rw [runOn_exchange hw hb, hu _ _ rfl]
  rfl

/-- A reply that the step does not accept closes the transport, and CONNECT ends in its error (R158, R223, R230; log 15). -/
theorem runOn_rejected {e : Error} (hl : s.lock = .free) (hu : ∀ c t, useReply c x b t = failHandshake c e t)
    (hw : w.txbuf = some f) (hb : b.length = x.replyLen) (ok : Bool) (rest : List Input) :
    runOn (.writeOk :: .bytes b :: .closed ok :: rest) (connectAt x h w s) =
      { s with
        fsm := .disconnected, tp := .released, sync := .insync, opstep := .idle, work := Work.empty, rx := []
        inputs := rest
        history := s.history ++ (h ++ (exchangeCalls x f b s.timeout ++ [.closed ok]))
        results := s.results ++ [⟨s.port, .err e⟩] } := by
  rw [runOn_exchange hw hb, hu, runOn_answer rfl rfl, answer_failing_closed (c := s.port) (e := e) rfl, runOn_idle rfl,
    failureCloses, raise, release_of_free hl, ← List.append_assoc h, ← List.append_assoc s.history]
  rfl

/-- The complete reply ends CONNECT in Ready (R157). -/
theorem runOn_actComplete (hl : s.lock = .free) (hw : w.txbuf = some f) (rest : List Input) :
    runOn (.writeOk :: .bytes Wire.actComplete :: rest) (connectAt .poll h w s) =
      { s with
        fsm := .ready, tp := .held, sync := .insync, opstep := .idle, work := Work.empty, rx := [], inputs := rest
        history := s.history ++ (h ++ exchangeCalls .poll f Wire.actComplete s.timeout)
        results := s.results ++ [⟨s.port, .ok .unit⟩] } := by
  rw [runOn_exchange hw rfl, useReply, if_pos isActComplete_actComplete, runOn_idle rfl, complete, release_of_free hl]
  rfl

end

/-! ### What each step of the handshake accepts -/

theorem useReply_deactivate_ack (c : Nat) (t : State) :
    useReply c .deactivate Wire.ack t = send c .activate Wire.activate (setFsm .activating t) := by
  rw [useReply, if_pos isAck_ack]

theorem useReply_activate_ack (c : Nat) (t : State) :
    useReply c .activate Wire.ack t = send c .poll Wire.statusPoll (setFsm .polling t) := by
  rw [useReply, if_pos isAck_ack]

theorem useReply_poll_pending (c : Nat) (t : State) (hf : t.fsm = .polling) :
    useReply c .poll Wire.actPending t = send c .poll Wire.statusPoll (setFsm .polling t) := by
  rw [useReply, if_neg (by simp), if_pos isActPending_actPending, ← hf]
  rfl

theorem useReply_deactivate_rejected {b : List Byte} (hb : b ≠ Wire.ack) (c : Nat) (t : State) :
    useReply c .deactivate b t = failHandshake c .deactivateRejected t := if_neg (mt (isAck_iff b).1 hb)

theorem useReply_activate_rejected {b : List Byte} (hb : b ≠ Wire.ack) (c : Nat) (t : State) :
    useReply c .activate b t = failHandshake c .activateRejected t := if_neg (mt (isAck_iff b).1 hb)

theorem useReply_poll_rejected {b : List Byte} (hc : b ≠ Wire.actComplete) (hp : b ≠ Wire.actPending) (c : Nat) (t : State) :
    useReply c .poll b t = failHandshake c .restartError t := by
  rw [useReply, if_neg (mt (isActComplete_iff b).1 hc), if_neg (mt (isActPending_iff b).1 hp)]

/-! ### The handshake up to the poll loop, and the loop -/

/-- The calls of `k` polls that were answered with the pending reply. -/
def pendingCalls (k timeout : Nat) : List Event :=
  (List.replicate k (exchangeCalls .poll Wire.statusPoll Wire.actPending timeout)).flatten

/-- The inputs of `k` polls that are answered with the pending reply. -/
def pendingInputs (k : Nat) : List Input := (List.replicate k [Input.writeOk, .bytes Wire.actPending]).flatten

/-- However many pending replies come, the next poll is due after them (R155, R156). -/
theorem runOn_pendingReplies (k : Nat) {h : List Event} {w : Work} {s : State} (hw : w.txbuf = some Wire.statusPoll)
    (l : List Input) :
    ∃ w', w'.txbuf = some Wire.statusPoll ∧
      runOn (pendingInputs k ++ l) (connectAt .poll h w s) =
        runOn l (connectAt .poll (h ++ pendingCalls k s.timeout) w' s) := by
  induction k generalizing h w with
  | zero => exact ⟨w, hw, by rw [pendingCalls, List.replicate_zero, List.flatten_nil, List.append_nil]; rfl⟩
  | succ k ih =>
    obtain ⟨w₁, hw₁, hfirst⟩ := runOn_accepted (x := .poll) (y := .poll) (h := h) (s := s) useReply_poll_pending hw rfl
      (pendingInputs k ++ l)
    obtain ⟨w₂, hw₂, hrest⟩ := ih hw₁
    refine ⟨w₂, hw₂, ?_⟩
    calc runOn (pendingInputs (k + 1) ++ l) (connectAt .poll h w s)
        = runOn (pendingInputs k ++ l) _ := hfirst
      _ = runOn l (connectAt .poll (_ ++ pendingCalls k s.timeout) w₂ s) := hrest
      _ = runOn l (connectAt .poll (h ++ pendingCalls (k + 1) s.timeout) w₂ s) := by rw [List.append_assoc]; rfl

/-- The calls of CONNECT up to the write of ACTIVATE. -/
def callsToActivate (s : State) : List Event :=
  .opened s.tpParams true :: exchangeCalls .deactivate Wire.deactivate Wire.ack s.timeout

/-- The calls of CONNECT up to the write of the first poll. -/
def callsToPoll (s : State) : List Event := callsToActivate s ++ exchangeCalls .activate Wire.activate Wire.ack s.timeout

/-- The ack of DEACTIVATE leads to the write of ACTIVATE (R153). -/
theorem connect_reaches_activate {s : State} {l : List Input} (hl : s.lock = .free) (hf : s.fsm ≠ .ready)
    (hin : s.inputs = .openOk [] :: .writeOk :: .bytes Wire.ack :: l) :
    ∃ w, w.txbuf = some Wire.activate ∧
      exec .connect s = .next (runOn l (connectAt .activate (callsToActivate s) w s)) := by
  obtain ⟨w, hw, he⟩ := connect_reaches_deactivate hl hf hin
  obtain ⟨w', hw', hr⟩ := runOn_accepted (fun c t _ => useReply_deactivate_ack c t) hw rfl l
  exact ⟨w', hw', he.trans (congrArg _ hr)⟩

/-- Two acks and any number of pending replies lead to the write of a poll (R153 to R156). -/
theorem connect_reaches_poll (k : Nat) {s : State} {l : List Input} (hl : s.lock = .free) (hf : s.fsm ≠ .ready)
    (hin : s.inputs =
      .openOk [] :: .writeOk :: .bytes Wire.ack :: .writeOk :: .bytes Wire.ack :: (pendingInputs k ++ l)) :
    ∃ w, w.txbuf = some Wire.statusPoll ∧
      exec .connect s = .next (runOn l (connectAt .poll (callsToPoll s ++ pendingCalls k s.timeout) w s)) := by
  obtain ⟨w, hw, he⟩ := connect_reaches_activate hl hf hin
  obtain ⟨w₁, hw₁, hack⟩ := runOn_accepted (fun c t _ => useReply_activate_ack c t) hw rfl (pendingInputs k ++ l)
  obtain ⟨w₂, hw₂, hloop⟩ := runOn_pendingReplies k hw₁ l
  exact ⟨w₂, hw₂, he.trans (congrArg _ (hack.trans hloop))⟩

/-! ### The runs of CONNECT -/

/-- Settles O21: the handshake reaches the poll after the last pending reply, and the complete reply ends it. -/
theorem connectRunsTheHandshake : Obligations.ConnectRunsTheHandshake := by
  unfold Obligations.ConnectRunsTheHandshake
  refine ⟨fun _ => rfl, fun k rest s hl hf hin => ?_⟩
  rw [List.append_assoc, List.append_assoc] at hin
  obtain ⟨w, hw, he⟩ := connect_reaches_poll k (l := .writeOk :: .bytes Wire.actComplete :: rest) hl hf hin
  rw [he, List.append_assoc, List.append_assoc]
  exact congrArg _ (runOn_actComplete hl hw rest)

theorem length_pendingCalls (k timeout : Nat) : (pendingCalls k timeout).length = 2 * k := by
  simp [pendingCalls, exchangeCalls, Nat.mul_comm]

/-- Settles O22: after the last pending reply CONNECT waits at its next poll. -/
theorem pollLoopHasNoBound : Obligations.PollLoopHasNoBound := by
  unfold Obligations.PollLoopHasNoBound
  intro k s hl hf hin
  rw [← List.append_nil (List.flatten _)] at hin
  obtain ⟨w, hw, he⟩ := connect_reaches_poll k hl hf hin
  refine ⟨_, he, rfl, rfl, rfl, rfl, hw, rfl, ?_⟩
  have hcalls : (callsToPoll s).length = 5 := rfl
  simp [connectAt, length_pendingCalls, hcalls, Nat.add_assoc]

/-- Settles O25: each step of the handshake is reached by the acks and the pending replies before it, and rejects. -/
theorem rejectedHandshakeStepEndsDisconnected : Obligations.RejectedHandshakeStepEndsDisconnected := by
  unfold Obligations.RejectedHandshakeStepEndsDisconnected
  intro b ok rest s hl hf
  refine ⟨fun hin hb hne => ?_, fun hin hb hne => ?_, fun k hin hb hc hp => ?_⟩
  · obtain ⟨w, hw, he⟩ := connect_reaches_deactivate (l := .writeOk :: .bytes b :: .closed ok :: rest) hl hf hin
    rw [he]
    exact congrArg _ (runOn_rejected hl (useReply_deactivate_rejected hne) hw hb ok rest)
  · obtain ⟨w, hw, he⟩ := connect_reaches_activate (l := .writeOk :: .bytes b :: .closed ok :: rest) hl hf hin
    rw [he]
    exact congrArg _ (runOn_rejected hl (useReply_activate_rejected hne) hw hb ok rest)
  · rw [List.append_assoc, List.append_assoc] at hin
    obtain ⟨w, hw, he⟩ := connect_reaches_poll k (l := .writeOk :: .bytes b :: .closed ok :: rest) hl hf hin
    rw [he, List.append_assoc, List.append_assoc]
    exact congrArg _ (runOn_rejected hl (useReply_poll_rejected hc hp) hw hb ok rest)

end Sys2Proof.Proofs
end

section
/-! Conditioning of the pose operands: the clamp of raw integers, the product of a binary64 value with 255, and its byte
(43_command_query.md R181 to R184, R191). The rounding is read as a quotient rounded at the unit `2 ^ roundShift p`; as a function
of magnitudes (`roundMag`) it is monotone and commutes with powers of two, so the exponent of a value goes inside it. -/

namespace Sys2Proof.Proofs

open Sys2Proof.Machine

/-! ### The clamp -/

theorem clampInt_toNat (n : Int) :
    ((clampInt n).toNat : Int) = if n < 0 then 0 else if n > 255 then 255 else n := by
  unfold clampInt
  split
  · rfl
  · split
    · rfl
    · rw [BitVec.toNat_ofInt]
      omega

/-- Settles O41: the raw operand is clamped as the integer that it is. -/
theorem clampSaturates : Obligations.ClampSaturates := by
  unfold Obligations.ClampSaturates
  exact fun n => clampInt_toNat n.toInt

theorem clampInt_mono {a b : Int} (h : a ≤ b) : (clampInt a).toNat ≤ (clampInt b).toNat := by
  have ha := clampInt_toNat a
  have hb := clampInt_toNat b
  split_ifs at ha hb <;> omega

theorem clampInt_of_nonpos {n : Int} (h : n ≤ 0) : clampInt n = 0 := by
  rcases h.lt_or_eq with hneg | rfl
  · exact if_pos hneg
  · rfl

theorem clampInt_of_ge {n : Int} (h : 255 ≤ n) : clampInt n = 255 := by
  rw [clampInt, if_neg (by omega)]
  rcases h.eq_or_lt with rfl | hgt
  · rfl
  · exact if_pos hgt

theorem clampInt_natCast_of_le {n : Nat} (h : n ≤ 255) : clampInt n = BitVec.ofNat 8 n := by
  rw [clampInt, if_neg (by omega), if_neg (by omega)]
  rfl

/-! ### A quotient rounded to nearest, ties to even -/

/-- The quotient of `p` by the unit `d`, rounded to nearest with ties to even; `roundSig_eq` ties it to the model. -/
def roundDiv (p d : Nat) : Nat :=
  if 2 * (p % d) > d ∨ (2 * (p % d) = d ∧ p / d % 2 = 1) then p / d + 1 else p / d

/-- How many low bits of `p` the rounding to 53 bits drops. -/
def roundShift (p : Nat) : Nat := Nat.log2 p + 1 - 53

theorem roundSig_eq (p : Nat) : roundSig p = (roundDiv p (2 ^ roundShift p), roundShift p) := rfl

/-- The rounded quotient is the truncated one or the next. -/
theorem roundDiv_cases (p d : Nat) :
    (roundDiv p d = p / d + 1 ∧ (2 * (p % d) > d ∨ (2 * (p % d) = d ∧ p / d % 2 = 1))) ∨
    (roundDiv p d = p / d ∧ (2 * (p % d) < d ∨ (2 * (p % d) = d ∧ p / d % 2 = 0))) := by
  unfold roundDiv
  split <;> omega

theorem roundDiv_one (p : Nat) : roundDiv p 1 = p := by
  simp [roundDiv, Nat.mod_one]

theorem roundDiv_within_half (p : Nat) {d : Nat} (hd : 0 < d) :
    2 * (roundDiv p d * d) ≤ 2 * p + d ∧ 2 * p ≤ 2 * (roundDiv p d * d) + d := by
  have hp := Nat.div_add_mod' p d
  have hr := Nat.mod_lt p hd
  rcases roundDiv_cases p d with ⟨hq, h⟩ | ⟨hq, h⟩ <;> rw [hq]
  · rw [Nat.succ_mul (p / d)]; omega
  · omega

theorem roundDiv_even_of_tie {p d : Nat} (hd : 0 < d)
    (h : 2 * (roundDiv p d * d) = 2 * p + d ∨ 2 * p = 2 * (roundDiv p d * d) + d) : roundDiv p d % 2 = 0 := by
  have hp := Nat.div_add_mod' p d
  have hr := Nat.mod_lt p hd
  rcases roundDiv_cases p d with ⟨hq, hup⟩ | ⟨hq, hdown⟩ <;> rw [hq] at h ⊢
  · rw [Nat.succ_mul (p / d)] at h; omega
  · omega

theorem div_le_roundDiv (p d : Nat) : p / d ≤ roundDiv p d := by
  rcases roundDiv_cases p d with ⟨hq, -⟩ | ⟨hq, -⟩ <;> omega

theorem roundDiv_le_div_add_one (p d : Nat) : roundDiv p d ≤ p / d + 1 := by
  rcases roundDiv_cases p d with ⟨hq, -⟩ | ⟨hq, -⟩ <;> omega

/-- Where the truncated quotients are the same, a number that is rounded up has no larger one that is rounded down. -/
theorem roundDiv_mono {p p' : Nat} (h : p ≤ p') (d : Nat) : roundDiv p d ≤ roundDiv p' d := by
  have hdiv : p / d ≤ p' / d := Nat.div_le_div_right h
  rcases hdiv.eq_or_lt with heq | hlt
  · have hp := Nat.div_add_mod' p d
    have hp' := Nat.div_add_mod' p' d
    rw [heq] at hp
    rcases roundDiv_cases p d with ⟨hq, hup⟩ | ⟨hq, -⟩
    · rcases roundDiv_cases p' d with ⟨hq', -⟩ | ⟨-, hdown⟩ <;> omega
    · exact hq.trans_le (hdiv.trans (div_le_roundDiv p' d))
  · exact (roundDiv_le_div_add_one p d).trans (Nat.le_trans hlt (div_le_roundDiv p' d))

theorem roundDiv_two_mul (p d : Nat) : roundDiv (2 * p) (2 * d) = roundDiv p d := by
  have hdiv : 2 * p / (2 * d) = p / d := Nat.mul_div_mul_left p d Nat.two_pos
  have hmod : 2 * p % (2 * d) = 2 * (p % d) := Nat.mul_mod_mul_left 2 p d
  have hcond : (2 * (2 * (p % d)) > 2 * d ∨ 2 * (2 * (p % d)) = 2 * d ∧ p / d % 2 = 1) ↔
      (2 * (p % d) > d ∨ 2 * (p % d) = d ∧ p / d % 2 = 1) := by omega
  simp only [roundDiv, hdiv, hmod, hcond]

/-! ### The unit of the rounding at 53 bits -/

theorem roundShift_eq_zero {p : Nat} (h : p < 2 ^ 53) : roundShift p = 0 := by
  have hlog : p.log2 < 53 := by
    rcases Nat.eq_zero_or_pos p with rfl | hpos
    · decide
    · exact (Nat.log2_lt hpos.ne').2 h
  rw [roundShift]
  omega

theorem roundShift_mono {p p' : Nat} (h : p ≤ p') : roundShift p ≤ roundShift p' := by
  have hlog : p.log2 ≤ p'.log2 := by
    rw [Nat.log2_eq_log_two, Nat.log2_eq_log_two]
    exact Nat.log_mono_right h
  rw [roundShift, roundShift]
  omega

theorem roundShift_two_mul {p : Nat} (h : 2 ^ 52 ≤ p) : roundShift (2 * p) = roundShift p + 1 := by
  have hpos : p ≠ 0 := by omega
  have hlog : 52 ≤ p.log2 := (Nat.le_log2 hpos).2 h
  rw [roundShift, roundShift, Nat.log2_two_mul hpos]
  omega

/-- The truncated significand of a number of at least 53 bits has 53 bits. -/
theorem div_roundShift_bounds {p : Nat} (h : 2 ^ 52 ≤ p) :
    2 ^ 52 ≤ p / 2 ^ roundShift p ∧ p / 2 ^ roundShift p < 2 ^ 53 := by
  have hpos : p ≠ 0 := by omega
  have hlog : 52 ≤ p.log2 := (Nat.le_log2 hpos).2 h
  have hlow : 52 + roundShift p = p.log2 := by rw [roundShift]; omega
  have hhigh : 53 + roundShift p = p.log2 + 1 := by omega
  constructor
  · rw [Nat.le_div_iff_mul_le (Nat.two_pow_pos _), ← Nat.pow_add, hlow]
    exact Nat.log2_self_le hpos
  · rw [Nat.div_lt_iff_lt_mul (Nat.two_pow_pos _), ← Nat.pow_add, hhigh]
    exact Nat.lt_log2_self

theorem roundSig_of_lt {p : Nat} (h : p < 2 ^ 53) : roundSig p = (p, 0) := by
  rw [roundSig_eq, roundShift_eq_zero h, Nat.pow_zero, roundDiv_one]

theorem roundSig_bounds {p : Nat} (h : 2 ^ 53 ≤ p) : 2 ^ 52 ≤ (roundSig p).1 ∧ (roundSig p).1 ≤ 2 ^ 53 := by
  obtain ⟨hlow, hhigh⟩ := div_roundShift_bounds (p := p) (by omega)
  exact ⟨hlow.trans (div_le_roundDiv p _), (roundDiv_le_div_add_one p _).trans hhigh⟩

/-- Settles O42: the significand is a quotient rounded to nearest even, at a unit that leaves 53 bits. -/
theorem productRoundsToNearestEven : Obligations.ProductRoundsToNearestEven := by
  unfold Obligations.ProductRoundsToNearestEven
  intro p q k
  have hunit : 0 < 2 ^ roundShift p := Nat.two_pow_pos _
  obtain ⟨hover, hunder⟩ := roundDiv_within_half p hunit
  refine ⟨fun h => ?_, hover, hunder, fun _ => roundDiv_even_of_tie hunit, roundSig_bounds⟩
  exact Prod.mk.inj (roundSig_of_lt h)

/-! ### The rounding of a magnitude -/

/-- The magnitude that `p` is rounded to. -/
def roundMag (p : Nat) : Nat := (roundSig p).1 * 2 ^ (roundSig p).2

theorem roundMag_eq (p : Nat) : roundMag p = roundDiv p (2 ^ roundShift p) * 2 ^ roundShift p := rfl

theorem roundMag_of_lt {p : Nat} (h : p < 2 ^ 53) : roundMag p = p := by
  rw [roundMag, roundSig_of_lt h, Nat.pow_zero, Nat.mul_one]

/-- In one binade the quotients are at the same unit; from a binade to a higher one the significand cannot catch up. -/
theorem roundMag_mono {p p' : Nat} (h : p ≤ p') : roundMag p ≤ roundMag p' := by
  rcases (roundShift_mono h).eq_or_lt with heq | hlt
  · rw [roundMag_eq, roundMag_eq, heq]
    exact Nat.mul_le_mul_right _ (roundDiv_mono h _)
  · have hbig : 2 ^ 53 ≤ p' := by
      by_contra hsmall
      rw [roundShift_eq_zero (not_le.1 hsmall)] at hlt
      exact Nat.not_lt_zero _ hlt
    have htop : (roundSig p).1 ≤ 2 ^ 53 := by
      rcases lt_or_ge p (2 ^ 53) with hp | hp
      · rw [roundSig_of_lt hp]; exact hp.le
      · exact (roundSig_bounds hp).2
    calc roundMag p ≤ 2 ^ 53 * 2 ^ roundShift p := Nat.mul_le_mul_right _ htop
      _ = 2 ^ 52 * 2 ^ (roundShift p + 1) := by ring
      _ ≤ 2 ^ 52 * 2 ^ roundShift p' := Nat.mul_le_mul_left _ (Nat.pow_le_pow_right Nat.two_pos hlt)
      _ ≤ roundMag p' := Nat.mul_le_mul_right _ (roundSig_bounds hbig).1

theorem roundMag_two_mul (p : Nat) : roundMag (2 * p) = 2 * roundMag p := by
  rcases lt_or_ge p (2 ^ 52) with h | h
  · rw [roundMag_of_lt (by omega), roundMag_of_lt (by omega)]
  · rw [roundMag_eq, roundMag_eq, roundShift_two_mul h, Nat.pow_succ', roundDiv_two_mul]
    ring

theorem roundMag_mul_two_pow (p j : Nat) : roundMag (p * 2 ^ j) = roundMag p * 2 ^ j := by
  induction j with
  | zero => rw [Nat.pow_zero, Nat.mul_one, Nat.mul_one]
  | succ j ih =>
    calc roundMag (p * 2 ^ (j + 1)) = roundMag (2 * (p * 2 ^ j)) := by ring_nf
      _ = 2 * (roundMag p * 2 ^ j) := by rw [roundMag_two_mul, ih]
      _ = roundMag p * 2 ^ (j + 1) := by ring

/-! ### The product with 255 -/

/-- The magnitude of the product of a value with 255, in units of `2 ^ -1074`, before it may overflow (R183). -/
def productMag (sig e : Nat) : Nat := roundMag (255 * (sig * 2 ^ e))

/-- A value is rounded at its significand, and that is its magnitude rounded. -/
theorem roundSig_mul_exp (sig e : Nat) :
    (roundSig (255 * sig)).1 * 2 ^ (e + (roundSig (255 * sig)).2) = productMag sig e := by
  rw [productMag, ← Nat.mul_assoc, roundMag_mul_two_pow, roundMag]
  ring

theorem productMag_mono {s e s' e' : Nat} (h : s * 2 ^ e ≤ s' * 2 ^ e') : productMag s e ≤ productMag s' e' :=
  roundMag_mono (Nat.mul_le_mul_left 255 h)

theorem productMag_of_zero {s e : Nat} (h : s * 2 ^ e = 0) : productMag s e = 0 := by
  rw [productMag, h, Nat.mul_zero, roundMag_of_lt (Nat.two_pow_pos 53)]

/-- The product of a finite value is finite below `2 ^ 1024`, and infinite from there on (R183, R184). -/
theorem mul255_finite (neg : Bool) (sig e : Nat) :
    (F64.finite neg sig e).mul255 =
      if 2 ^ 2098 ≤ productMag sig e then .infinite neg
      else .finite neg (roundSig (255 * sig)).1 (e + (roundSig (255 * sig)).2) := by
  simp only [F64.mul255, roundSig_mul_exp, Nat.reduceAdd]

/-! ### The byte of a product -/

/-- The signed integer part of a magnitude in units of `2 ^ -1074`. -/
def integerPart (neg : Bool) (m : Nat) : Int :=
  if neg then -((m / 2 ^ 1074 : Nat) : Int) else ((m / 2 ^ 1074 : Nat) : Int)

theorem clampInt_integerPart_neg (m : Nat) : clampInt (integerPart true m) = 0 := by
  refine clampInt_of_nonpos ?_
  rw [integerPart, if_pos rfl]
  exact neg_nonpos.2 (Int.natCast_nonneg _)

theorem clampInt_div_of_ge {m a : Nat} (h : 255 * 2 ^ a ≤ m) : clampInt ((m / 2 ^ a : Nat) : Int) = 255 :=
  clampInt_of_ge (Int.ofNat_le.2 ((Nat.le_div_iff_mul_le (Nat.two_pow_pos a)).2 h))

theorem clampInt_div_of_lt {m a : Nat} (h : m < 255 * 2 ^ a) :
    clampInt ((m / 2 ^ a : Nat) : Int) = BitVec.ofNat 8 (m / 2 ^ a) :=
  clampInt_natCast_of_le ((Nat.div_lt_iff_lt_mul (Nat.two_pow_pos a)).2 h).le

/-- Comparing a magnitude with 255 units before the truncation, or clamping after it, is the same. -/
theorem compare_eq_clampInt_div (m a : Nat) :
    (if 255 * 2 ^ a ≤ m then 255 else BitVec.ofNat 8 (m / 2 ^ a)) = clampInt ((m / 2 ^ a : Nat) : Int) := by
  split
  · next h => exact (clampInt_div_of_ge h).symm
  · next h => exact (clampInt_div_of_lt (not_le.1 h)).symm

theorem toByte_neg (drawn : Byte) (sig e : Nat) : (F64.finite true sig e).toByte drawn = 0 := by
  rw [F64.toByte, if_neg fun h => nomatch h.1]
  exact if_pos (.inl rfl)

/-- Zero needs no comparison of its own, since its integer part is 0. -/
theorem toByte_nonneg (drawn : Byte) (sig e : Nat) :
    (F64.finite false sig e).toByte drawn =
      if 255 * 2 ^ 1074 ≤ sig * 2 ^ e then 255 else BitVec.ofNat 8 (sig * 2 ^ e / 2 ^ 1074) := by
  rcases Nat.eq_zero_or_pos sig with rfl | hpos
  · simp only [F64.toByte, true_and, or_true, if_true, Nat.zero_mul, Nat.zero_div, BitVec.ofNat_eq_ofNat]
  · simp only [F64.toByte, true_and, hpos.ne', or_false, Bool.false_eq_true, if_false]

/-- The comparisons of R183 are the clamp of the product truncated toward zero. -/
theorem toByte_finite (drawn : Byte) (neg : Bool) (sig e : Nat) :
    (F64.finite neg sig e).toByte drawn = clampInt (integerPart neg (sig * 2 ^ e)) := by
  cases neg with
  | true => rw [clampInt_integerPart_neg, toByte_neg]
  | false => exact (toByte_nonneg drawn sig e).trans (compare_eq_clampInt_div (sig * 2 ^ e) 1074)

/-- Settles O43: the overflow bound and the clamp. -/
theorem scaleIsClampOfTruncatedProduct : Obligations.ScaleIsClampOfTruncatedProduct := by
  unfold Obligations.ScaleIsClampOfTruncatedProduct
  refine ⟨fun neg sig e => ?_, fun drawn x neg sig e h => ?_⟩
  · simp only [roundSig_mul_exp]
    exact ⟨fun h => (mul255_finite ..).trans (if_pos h), fun h => (mul255_finite ..).trans (if_neg h.not_ge)⟩
  · rw [scale255, h]
    exact toByte_finite drawn neg sig e

theorem mul_two_pow_le_two_pow {a b : Nat} (h : a + 8 ≤ b) : 255 * 2 ^ a ≤ 2 ^ b :=
  calc 255 * 2 ^ a ≤ 2 ^ 8 * 2 ^ a := Nat.mul_le_mul_right _ (by decide)
    _ = 2 ^ (a + 8) := by ring
    _ ≤ 2 ^ b := Nat.pow_le_pow_right Nat.two_pos h

/-- An overflow saturates as its magnitude would, so one clamp covers the finite and the infinite products (R183, R184). -/
theorem scale255_of_finite {x : BitVec 64} {neg : Bool} {sig e : Nat} (h : F64.ofBits x = .finite neg sig e)
    (drawn : Byte) : scale255 drawn x = clampInt (integerPart neg (productMag sig e)) := by
  rw [scale255, h]
  rcases lt_or_ge (productMag sig e) (2 ^ 2098) with hfin | hover
  · rw [mul255_finite, if_neg hfin.not_ge, toByte_finite, roundSig_mul_exp]
  · rw [mul255_finite, if_pos hover]
    cases neg with
    | true => exact (clampInt_integerPart_neg _).symm
    | false =>
      exact (clampInt_div_of_ge ((mul_two_pow_le_two_pow (by decide)).trans hover)).symm

/-! ### Monotonicity and the operands outside the finite values -/

theorem integerPart_zero (neg : Bool) : integerPart neg 0 = 0 := by
  cases neg with
  | true => rw [integerPart, if_pos rfl, Nat.zero_div]; rfl
  | false => rw [integerPart, if_neg Bool.false_ne_true, Nat.zero_div]; rfl

/-- A value that is at most a negative one and not negative is zero. -/
theorem eq_zero_of_le_neg {a b : Nat} (h : (a : Int) ≤ -(b : Int)) : a = 0 := by omega

/-- Settles O45: a negative value gives 0; between values that are not negative, rounding, truncation and clamp are monotone. -/
theorem scaleIsMonotone : Obligations.ScaleIsMonotone := by
  unfold Obligations.ScaleIsMonotone
  intro drawn x y n m sx ex sy ey hx hy hle
  rw [scale255_of_finite hx, scale255_of_finite hy]
  cases n with
  | true => rw [clampInt_integerPart_neg]; exact Nat.zero_le _
  | false =>
    cases m with
    | false =>
      have hmag : sx * 2 ^ ex ≤ sy * 2 ^ ey := Int.ofNat_le.1 hle
      exact clampInt_mono (Int.ofNat_le.2 (Nat.div_le_div_right (productMag_mono hmag)))
    | true =>
      have hzero : productMag sx ex = 0 := productMag_of_zero (eq_zero_of_le_neg hle)
      rw [hzero, integerPart_zero, clampInt_of_nonpos le_rfl]
      exact Nat.zero_le _

/-- Settles O44: the special values are told from their bits, and the infinities and the NaN pass through the product. -/
theorem nonFiniteOperandsAreNeverRejected : Obligations.NonFiniteOperandsAreNeverRejected := by
  unfold Obligations.NonFiniteOperandsAreNeverRejected
  intro drawn
  refine ⟨rfl, rfl, ?_, fun x h => ?_, fun x he hf => ?_⟩
  · have hzero : F64.ofBits 0x8000000000000000 = .finite true 0 0 := rfl
    rw [scale255_of_finite hzero, clampInt_integerPart_neg]
  · rw [scale255, h]; rfl
  · rw [scale255, F64.ofBits, if_pos he, if_neg hf]; rfl

end Sys2Proof.Proofs
end

section
/-! POSE, POSE_NORM and GET_STATE when the transport answers: in Ready they write one request, take the first bytes of RX as the
reply and end with it; outside Ready they end before any transport call (43_command_query.md R180 to R190). -/

namespace Sys2Proof.Proofs

open Sys2Proof.Machine

/-! ### An exchange in Ready that is answered -/

/-- What is left of `s` when an exchange in Ready has ended with a reply: the calls `h` are on record, RX holds `rx`, the caller
has the result, the lock is free, and everything else is as it was (R60, R180, R185). `exec_of_reply` ties it to the model. -/
def queryAnswered (c : Nat) (h : List Event) (rx : List Byte) (rest : List Input) (r : Result) (s : State) : State :=
  { s with
    lock := .free, opstep := .idle, work := Work.empty, rx := rx, inputs := rest
    history := s.history ++ h
    results := s.results ++ [⟨c, r⟩] }

/-- A locked operation that enters such an exchange ends with its reply: the read takes the oldest bytes of RX, and a use of them
that only returns a result leaves nothing to run on. -/
theorem exec_of_reply {i : Instr} {x : Exch} {s t : State} {c : Nat} {f b : List Byte} {r : Result} {rest : List Input}
    (he : exec i s = .next (runOn s.inputs t)) (hin : s.inputs = .writeOk :: .bytes b :: rest)
    (ho : t.opstep = .busy c (.writing x)) (ht : t.work.txbuf = some f) (hlen : x.replyLen ≤ (t.rx ++ b).length)
    (hu : ∀ u, useReply c x ((t.rx ++ b).take x.replyLen) u = deliver c r (release u)) :
    exec i s = .next (queryAnswered c
      [.wrote f true, .didRead x.replyLen t.timeout (.bytes ((t.rx ++ b).take x.replyLen))]
      ((t.rx ++ b).drop x.replyLen) rest r t) := by
  have hread : answer (.bytes b) (writeSucceeds c x f t) = readSucceeds c x (setRx (t.rx ++ b) (writeSucceeds c x f t)) := by
    rw [answer_reading_bytes (c := c) (x := x) rfl]
    exact if_pos hlen
  rw [he, hin, runOn_answer (running_busy ho) rfl, answer_writing_ok ho ht, runOn_answer rfl rfl, hread, readSucceeds]
  simp only [setRx_rx]
  rw [hu, runOn_idle rfl, queryAnswered, List.append_cons t.history]
  simp only [setInputs, deliver, release, setWork, setOpstep, setLock, setRx, emit, writeSucceeds]

/-- The lock that a query took is free again, as it was before. -/
theorem queryAnswered_of_free {s : State} (hl : s.lock = .free) (c : Nat) (h : List Event) (rx : List Byte)
    (rest : List Input) (r : Result) :
    queryAnswered c h rx rest r s =
      { s with
        opstep := .idle, work := Work.empty, rx := rx, inputs := rest
        history := s.history ++ h
        results := s.results ++ [⟨c, r⟩] } := by
  rw [queryAnswered, hl]

/-- What a caller of POSE or POSE_NORM gets for a reply: Ok for the ack, SendRejected for anything else (R188). -/
def sendResult (reply : List Byte) : Result := if reply = Wire.ack then .ok .unit else .err .sendRejected

theorem useReply_setPose (c : Nat) (reply : List Byte) (t : State) :
    useReply c .setPose reply t = deliver c (sendResult reply) (release t) := by
  by_cases h : reply = Wire.ack
  · rw [useReply, if_pos ((isAck_iff reply).2 h), sendResult, if_pos h]; rfl
  · rw [useReply, if_neg (mt (isAck_iff reply).1 h), sendResult, if_neg h]; rfl

theorem useReply_readState {reply : List Byte} {st : GripperStatus} (h : decodeStatus reply = some st) (c : Nat)
    (t : State) : useReply c .readState reply t = deliver c (.ok (.status st)) (release t) := by
  rw [useReply, h]
  rfl

/-- Settles O33: POSE is one exchange, and its reply is compared with the ack. -/
theorem poseWritesAndRequiresTheAck : Obligations.PoseWritesAndRequiresTheAck := by
  unfold Obligations.PoseWritesAndRequiresTheAck
  refine ⟨fun _ => rfl, fun p v f b rest s hl hf hin hlen => ?_⟩
  rw [exec_of_reply (exec_pose_ready hl hf p v f) hin rfl rfl hlen (useReply_setPose s.port _)]
  exact congrArg _ (queryAnswered_of_free hl ..)

/-- Settles O34: as for O33, after three draws. -/
theorem poseNormWritesAndRequiresTheAck : Obligations.PoseNormWritesAndRequiresTheAck := by
  unfold Obligations.PoseNormWritesAndRequiresTheAck
  refine ⟨fun _ => rfl, fun p v f b rest s hl hf hin hlen => ?_⟩
  rw [exec_of_reply (exec_poseNorm_ready hl hf p v f) hin rfl rfl hlen (useReply_setPose s.port _)]
  exact congrArg _ (queryAnswered_of_free (s := setDraws (s.draws + 3) s) hl ..)

/-- Settles O37: the case of O33 and O34 in which the reply is not the ack. -/
theorem rejectedSendStaysReady : Obligations.RejectedSendStaysReady := by
  unfold Obligations.RejectedSendStaysReady
  intro b rest s hl hf hin hlen hne g
  refine ⟨fun p v f => ?_, fun p v f => ?_⟩
  · rw [poseWritesAndRequiresTheAck.2 p v f b rest s hl hf hin hlen, if_neg hne]
  · rw [poseNormWritesAndRequiresTheAck.2 p v f b rest s hl hf hin hlen, if_neg hne]

/-- Settles O35: GET_STATE is one exchange, and eleven bytes always decode. -/
theorem getStateReturnsTheDecodedReply : Obligations.GetStateReturnsTheDecodedReply := by
  unfold Obligations.GetStateReturnsTheDecodedReply
  refine ⟨fun _ => rfl, fun b rest s hl hf hin hlen => ?_⟩
  obtain ⟨st, hst⟩ := exists_decodeStatus_of_length (List.length_take_of_le hlen)
  refine ⟨st, hst, ?_⟩
  rw [exec_of_reply (exec_getState_ready hl hf) hin rfl rfl hlen (useReply_readState hst s.port)]
  exact congrArg _ (queryAnswered_of_free hl ..)

/-! ### Outside Ready -/

/-- A query begun outside Ready ends before any transport call, in a block that is idle with no working register (R187, R234). -/
theorem exec_of_not_ready {i : Instr} (hi : takesLock i = true) {s : State} (h : Consistent s) (hl : s.lock = .free)
    (hf : s.fsm ≠ .ready) (hb : BeginsQuery s.port (setLock .held s) (bodyOf i s.port (setLock .held s))) :
    exec i s = .next { s with results := s.results ++ [⟨s.port, .err .notConnected⟩] } := by
  have hidle := idle_of_free h hl
  obtain ⟨-, -, hwork, -⟩ := (consistent_iff_of_idle hidle).1 h
  obtain ⟨-, hraise⟩ := hb.resolve_right fun hready => hf hready.1
  have hrun : exec i s = .next { s with
      opstep := .idle, work := Work.empty, results := s.results ++ [⟨s.port, .err .notConnected⟩] } := by
    rw [exec_of_free hi hl hraise, runOn_idle rfl, raise, release_of_free hl]
    rfl
  rw [hrun, ← hidle, ← hwork]

/-- Settles O36: a consistent block with the lock free is Disconnected or Ready, and each of the three begins as a query. -/
theorem commandsOutsideReadyAreNotConnected : Obligations.CommandsOutsideReadyAreNotConnected := by
  unfold Obligations.CommandsOutsideReadyAreNotConnected
  intro s h hl hf
  obtain ⟨-, hdisconnected, -⟩ := (settled_of_free h hl).resolve_right fun hready => hf hready.2.1
  exact ⟨hdisconnected,
    fun p v f => exec_of_not_ready (i := .pose p v f) rfl h hl hf (poseBody_begins ..),
    fun p v f => exec_of_not_ready (i := .poseNorm p v f) rfl h hl hf (poseNormBody_begins ..),
    exec_of_not_ready (i := .getState) rfl h hl hf (getStateBody_begins ..)⟩

end Sys2Proof.Proofs
end

section
/-! The Status Decoder: the record as a function of the five bytes that are read, its fields and accessors as numbers, and the
operation DECODE_STATUS by the length of its operand (44_status_decoder.md R200 to R214). -/

namespace Sys2Proof.Proofs

open Sys2Proof.Machine

/-! ### The fields of byte 3 and byte 8 as numbers -/

theorem decodeAct_toNat (b : Byte) : (decodeAct b).toNat = b.toNat % 2 := BitVec.extractLsb'_toNat 0 1 b

theorem decodeGto_toNat (b : Byte) : (decodeGto b).toNat = b.toNat / 8 % 2 := by
  rw [decodeGto, BitVec.extractLsb'_toNat, Nat.shiftRight_eq_div_pow]

theorem decodeGphase_toNat (b : Byte) : (decodeGphase b).toNat = b.toNat / 16 % 4 := by
  rw [decodeGphase, BitVec.extractLsb'_toNat, Nat.shiftRight_eq_div_pow]

/-- The field ends at the top bit of the byte, so nothing is cut off above it. -/
theorem decodeOphase_toNat (b : Byte) : (decodeOphase b).toNat = b.toNat / 64 := by
  have hlt : b.toNat / 2 ^ 6 < 2 ^ 2 := by omega
  rw [decodeOphase, BitVec.extractLsb'_toNat, Nat.shiftRight_eq_div_pow]
  exact Nat.mod_eq_of_lt hlt

/-- Twelve bits hold the product, at most 2550, so the multiplication does not wrap (R209, R215). -/
theorem decodeCurrent_toNat (b : Byte) : (decodeCurrent b).toNat = b.toNat * 10 := by
  have hwide : (b.setWidth 12).toNat = b.toNat := BitVec.toNat_setWidth_of_le (by omega)
  have hfits : (b.setWidth 12).toNat * (10#12).toNat < 2 ^ 12 := by
    rw [hwide, BitVec.toNat_ofNat]
    omega
  rw [decodeCurrent, BitVec.toNat_mul_of_lt hfits, hwide, BitVec.toNat_ofNat]

/-! ### The accessors of a flag -/

theorem beq_one_eq_decide_toNat (x : BitVec 1) : (x == 1) = decide (x.toNat = 1) := by
  rw [beq_eq_decide, decide_eq_decide, BitVec.toNat_eq]
  rfl

theorem isActive_of_act_toNat {st : GripperStatus} {n : Nat} (h : st.act.toNat = n) : isActive st = decide (n = 1) := by
  rw [isActive, beq_one_eq_decide_toNat, h]

theorem isOnGoToPosition_of_gto_toNat {st : GripperStatus} {n : Nat} (h : st.gto.toNat = n) :
    isOnGoToPosition st = decide (n = 1) := by
  rw [isOnGoToPosition, beq_one_eq_decide_toNat, h]

/-! ### The record of an eleven-byte sequence -/

/-- The record of the bytes at the offsets 3, 5, 6, 7 and 8 (R200). `decodeStatus_of_length` ties it to the model. -/
def statusOf (b3 b5 b6 b7 b8 : Byte) : GripperStatus where
  act := decodeAct b3
  gto := decodeGto b3
  gphase := decodeGphase b3
  ophase := decodeOphase b3
  fault := b5
  posEcho := b6
  posMeas := b7
  curMA := decodeCurrent b8

/-- No other offset is read (R210). -/
theorem decodeStatus_of_length : ∀ {bs : List Byte}, bs.length = 11 →
    decodeStatus bs = some (statusOf (bs.getD 3 0) (bs.getD 5 0) (bs.getD 6 0) (bs.getD 7 0) (bs.getD 8 0))
  | [_, _, _, _, _, _, _, _, _, _, _], _ => rfl

theorem decodeStatus_of_length_ne {bs : List Byte} (h : bs.length ≠ 11) : decodeStatus bs = none := by
  unfold decodeStatus
  split
  · exact absurd rfl h
  · rfl

/-- A mask that is set over the whole of a field leaves the field as it is. -/
theorem extractLsb'_and_of_allOnes {start len : Nat} {m : Byte} (h : m.extractLsb' start len = BitVec.allOnes len) (b : Byte) :
    (b &&& m).extractLsb' start len = b.extractLsb' start len := by
  rw [BitVec.extractLsb'_and, h, BitVec.and_allOnes]

/-- Each field of byte 3 lies within the mask of bits 0 and 3 to 7 (R210). -/
theorem statusOf_and_mask (b3 b5 b6 b7 b8 : Byte) :
    statusOf (b3 &&& 0xF9#8) b5 b6 b7 b8 = statusOf b3 b5 b6 b7 b8 := by
  have hact : decodeAct (b3 &&& 0xF9#8) = decodeAct b3 := extractLsb'_and_of_allOnes (by decide) b3
  have hgto : decodeGto (b3 &&& 0xF9#8) = decodeGto b3 := extractLsb'_and_of_allOnes (by decide) b3
  have hgphase : decodeGphase (b3 &&& 0xF9#8) = decodeGphase b3 := extractLsb'_and_of_allOnes (by decide) b3
  have hophase : decodeOphase (b3 &&& 0xF9#8) = decodeOphase b3 := extractLsb'_and_of_allOnes (by decide) b3
  rw [statusOf, hact, hgto, hgphase, hophase, statusOf]

/-- Settles O19: the record is that of the masked byte 3 and of bytes 5 to 8. -/
theorem unreadStatusBitsDoNotMatter : Obligations.UnreadStatusBitsDoNotMatter := by
  unfold Obligations.UnreadStatusBitsDoNotMatter
  intro r q hr hq h3 h5 h6 h7 h8
  rw [decodeStatus_of_length hr, decodeStatus_of_length hq, ← statusOf_and_mask (r.getD 3 0), h3, h5, h6, h7, h8,
    statusOf_and_mask]

/-! ### The operation DECODE_STATUS -/

theorem exec_decodeStatus_of_some {bs : List Byte} {st : GripperStatus} (h : decodeStatus bs = some st) (s : State) :
    exec (.decodeStatus bs) s = .next (returns (.ok (.status st)) s) := by
  rw [exec, execDecodeStatus, h]

theorem exec_decodeStatus_of_none {bs : List Byte} (h : decodeStatus bs = none) (s : State) :
    exec (.decodeStatus bs) s = .next (returns (.err .badLength) s) := by
  rw [exec, execDecodeStatus, h]

/-- Settles O18: eleven bytes give the record `statusOf`, whose fields are the numbers above; any other length gives none. -/
theorem decodeStatusFollowsTheFieldTable : Obligations.DecodeStatusFollowsTheFieldTable := by
  unfold Obligations.DecodeStatusFollowsTheFieldTable
  refine ⟨fun _ => rfl, fun b0 b1 b2 b3 b4 b5 b6 b7 b8 b9 b10 s => ?_, fun bs s hlen => ?_⟩
  · exact ⟨statusOf b3 b5 b6 b7 b8, exec_decodeStatus_of_some (decodeStatus_of_length rfl) s,
      decodeAct_toNat b3, decodeGto_toNat b3, decodeGphase_toNat b3, decodeOphase_toNat b3,
      rfl, rfl, rfl, decodeCurrent_toNat b8,
      isActive_of_act_toNat (decodeAct_toNat b3), isOnGoToPosition_of_gto_toNat (decodeGto_toNat b3),
      decodeGphase_toNat b3, decodeOphase_toNat b3, decodeCurrent_toNat b8⟩
  · exact exec_decodeStatus_of_none (decodeStatus_of_length_ne hlen) s

end Sys2Proof.Proofs
end

section
/-! Results, errors and the transport's answers: a result comes with the release of the lock, nothing stops the block, what a close
reports is swallowed, and bytes that no read waits for stay in RX (60_exceptions.md R220, R235, R238, R245). -/

namespace Sys2Proof.Proofs

open Sys2Proof.Machine

/-! ### A result comes with the release of the lock -/

/-- The lock is free, OPSTEP idle and no working register has a value (R23, R235). -/
def LockReleased (s : State) : Prop := s.lock = .free ∧ s.opstep = .idle ∧ s.work = Work.empty

theorem lockReleased_complete (c : Nat) (v : Value) (s : State) : LockReleased (complete c v s) := ⟨rfl, rfl, rfl⟩

theorem lockReleased_raise (c : Nat) (e : Error) (s : State) : LockReleased (raise c e s) := ⟨rfl, rfl, rfl⟩

theorem exchangeFails_silent_or_releases (c : Nat) (x : Exch) (e : Error) (s : State) :
    (exchangeFails c x e s).results = s.results ∨ LockReleased (exchangeFails c x e s) := by
  rcases exchangeFails_eq c x e s with h | h <;> rw [h]
  · exact .inl rfl
  · exact .inr (lockReleased_raise ..)

/-- The handshake sends on or takes the failure exit, and neither returns a result; what returns one is an end. -/
theorem useReply_silent_or_releases (c : Nat) (x : Exch) (r : List Byte) (s : State) :
    (useReply c x r s).results = s.results ∨ LockReleased (useReply c x r s) := by
  rcases useReply_cases c x r s with ⟨-, -, h⟩ | ⟨-, -, h⟩ | ⟨-, -, h⟩ | ⟨-, -, -, h⟩ | ⟨-, -, h⟩ | ⟨-, -, h⟩ |
    ⟨-, -, -, h⟩ | ⟨-, -, h⟩ | ⟨-, -, h⟩ | ⟨st, -, -, h⟩ | ⟨-, -, h⟩ <;> rw [h]
  · exact .inl rfl
  · exact .inl rfl
  · exact .inr (lockReleased_complete ..)
  · exact .inl rfl
  · exact .inl rfl
  · exact .inl rfl
  · exact .inl rfl
  · exact .inr (lockReleased_complete ..)
  · exact .inr (lockReleased_raise ..)
  · exact .inr (lockReleased_complete ..)
  · exact .inr (lockReleased_raise ..)

theorem answer_silent_or_releases (a : Input) (s : State) :
    (answer a s).results = s.results ∨ LockReleased (answer a s) := by
  rcases answer_cases a s with ⟨c, stale, -, -, h⟩ | ⟨c, -, -, h⟩ | ⟨c, x, f, -, -, -, h⟩ | ⟨c, x, f, -, -, -, h⟩ |
    ⟨c, x, b, -, -, -, h⟩ | ⟨c, x, r, e, -, -, h⟩ | ⟨c, e, ok, -, -, h⟩ | ⟨c, ok, -, -, h⟩ | ⟨b, -, h⟩ | h <;> rw [h]
  · exact .inl rfl
  · exact .inr (lockReleased_raise ..)
  · exact .inl rfl
  · exact exchangeFails_silent_or_releases ..
  · exact useReply_silent_or_releases ..
  · exact exchangeFails_silent_or_releases ..
  · exact .inr (lockReleased_raise ..)
  · exact .inr (lockReleased_complete ..)
  · exact .inl rfl
  · exact .inl rfl

/-- Settles O32: an answer that is not silent ends the operation, and the end releases the lock. -/
theorem lockIsReleasedWhenAResultIsDelivered : Obligations.LockIsReleasedWhenAResultIsDelivered := by
  unfold Obligations.LockIsReleasedWhenAResultIsDelivered
  intro a s hresults
  exact (answer_silent_or_releases a s).resolve_left hresults

/-! ### Nothing stops the block -/

/-- Every kind of instruction answers a next state (R220). -/
theorem exec_next (i : Instr) (s : State) : ∃ t, exec i s = .next t := by
  rcases exec_cases i s with ⟨-, h⟩ | ⟨r, h⟩ | ⟨f, -, h⟩ | ⟨b, -, h⟩ <;> exact ⟨_, h⟩

/-- A step runs an instruction or moves on without one. -/
theorem step_next (s : State) : ∃ t, step s = .next t := by
  rcases step_cases s with ⟨w, -, -, h⟩ | ⟨-, h⟩ | ⟨c, op, args, l, i, -, -, h⟩ | ⟨c, op, args, l, -, h⟩ |
    ⟨k, w, l, -, -, -, h⟩ | ⟨k, l, -, h⟩ | ⟨f, l, i, -, -, -, h⟩ | ⟨b, l, i, -, -, h⟩ | ⟨a, l, -, -, h⟩ <;> rw [h]
  · exact exec_next ..
  · exact ⟨_, rfl⟩
  · exact exec_next ..
  · exact ⟨_, rfl⟩
  · exact exec_next ..
  · exact ⟨_, rfl⟩
  · exact exec_next ..
  · exact exec_next ..
  · exact ⟨_, rfl⟩

/-- Settles O7: by the kind of the instruction, and by what a step finds. -/
theorem nothingStopsTheBlock : Obligations.NothingStopsTheBlock := by
  unfold Obligations.NothingStopsTheBlock
  exact ⟨exec_next, step_next⟩

/-! ### What a close reports -/

/-- Without a transport SYNC reads insync, whatever was written last (R160, R262). -/
theorem persistent_eq_reset {s : State} (hf : s.fsm = .disconnected) (ht : s.tp = .released) (hl : s.lock = .free) :
    persistent s = persistent State.reset := by
  rw [persistent, hf, ht, hl, readSync_released ht]
  rfl

/-- Settles O28: what the close reported goes into the history and nowhere else, so the state after an Ok serves for both; and a
consistent block that is Disconnected with the lock free holds no transport. -/
theorem closeErrorsAreSwallowed : Obligations.CloseErrorsAreSwallowed := by
  unfold Obligations.CloseErrorsAreSwallowed
  refine ⟨fun s h hl hf => ?_, fun s c e hpending => ?_⟩
  · obtain ⟨-, -, htp⟩ := (settled_of_free h hl).resolve_right fun ⟨_, hready, _⟩ => nomatch hf.symm.trans hready
    exact persistent_eq_reset hf htp hl
  · rcases hpending with ho | ho
    · refine ⟨failureCloses c e true s, fun ok => ⟨?_, persistent_eq_reset rfl rfl rfl⟩⟩
      rw [answer_failing_closed ho]
      rfl
    · refine ⟨disconnectCloses c true s, fun ok => ⟨?_, persistent_eq_reset rfl rfl rfl⟩⟩
      rw [answer_closing_closed ho]
      rfl

/-! ### Bytes that no read waits for -/

/-- Bytes need no pending call: at every position but a read they only go to RX (R60, R238). -/
theorem answer_bytes_of_no_read {s : State} (hread : ∀ c x, s.opstep ≠ .busy c (.reading x)) (b : List Byte) :
    answer (.bytes b) s = setRx (s.rx ++ b) s := by
  cases ho : s.opstep with
  | idle => simp [answer, ho]
  | busy c p =>
    cases p with
    | reading x => exact absurd ho (hread c x)
    | opening | writing | failing | closing => simp [answer, ho]

/-- Settles O51: a reply frame is bytes arriving, and no read takes them. -/
theorem unsolicitedFramesWaitInRx : Obligations.UnsolicitedFramesWaitInRx := by
  unfold Obligations.UnsolicitedFramesWaitInRx
  intro i f s h hread
  rw [exec_of_encode_fromDevice h, answer_bytes_of_no_read hread, setRx]

end Sys2Proof.Proofs
end
